-- ==== Sys2Proof/Word.lean ====
section
/-! DEFINITION. The widths of the block (spec/00_scope.md rules R9, R11; spec/10_state.md rule R30): 64-bit words,
8-bit bytes, 5-bit register indices and the 3-bit register fields of the compressed formats. -/

namespace Sys2Proof

/-- A register value or an address: XLEN = FLEN = 64 (spec/00_scope.md rule R9). -/
abbrev Word := BitVec 64

/-- A byte of memory (spec/20_memory.md rule R81). -/
abbrev Byte := BitVec 8

/-- An index into the integer or the floating-point register file (spec/30_encoding.md rule R122). -/
abbrev Reg := BitVec 5

/-- A compressed register field `r'` (spec/30_encoding.md rule R141); it names register `8 + r'`. -/
abbrev CReg := BitVec 3

end Sys2Proof
end

