-- ==== Sys2Proof/Syntax.lean ====
section
/-! DEFINITION. The instructions: one constructor per row of spec/opcode_table.json, with the operands of its rule.
Immediates are the assembled ones of spec/30_encoding.md rules R134 and R143 (a branch offset is the byte distance, an
offset the encoding scales is the scaled value); a register operand is a 5-bit index, or a 3-bit field `r'` where the
compressed format has one. `rm` is the raw rounding-mode field: a reserved value is found when the instruction executes
(spec/45_fp_primitives.md rule R372). Fields the spec says are ignored are kept, so that no bit of a word is lost. -/

namespace Sys2Proof

inductive Instr where
  -- RV64I and RV64M computation (spec/40_integer_compute.md)
  /-- LUI, rule R173. -/
  | lui (rd : Reg) (imm20 : BitVec 20)
  /-- AUIPC, rule R174. -/
  | auipc (rd : Reg) (imm20 : BitVec 20)
  /-- ADDI, rule R175. -/
  | addi (rd rs1 : Reg) (imm : BitVec 12)
  /-- SLTI, rule R176. -/
  | slti (rd rs1 : Reg) (imm : BitVec 12)
  /-- SLTIU, rule R177. -/
  | sltiu (rd rs1 : Reg) (imm : BitVec 12)
  /-- XORI, rule R178. -/
  | xori (rd rs1 : Reg) (imm : BitVec 12)
  /-- ORI, rule R179. -/
  | ori (rd rs1 : Reg) (imm : BitVec 12)
  /-- ANDI, rule R180. -/
  | andi (rd rs1 : Reg) (imm : BitVec 12)
  /-- SLLI, rule R181. -/
  | slli (rd rs1 : Reg) (shamt : BitVec 6)
  /-- SRLI, rule R182. -/
  | srli (rd rs1 : Reg) (shamt : BitVec 6)
  /-- SRAI, rule R183. -/
  | srai (rd rs1 : Reg) (shamt : BitVec 6)
  /-- ADD, rule R184. -/
  | add (rd rs1 rs2 : Reg)
  /-- SUB, rule R185. -/
  | sub (rd rs1 rs2 : Reg)
  /-- SLL, rule R186. -/
  | sll (rd rs1 rs2 : Reg)
  /-- SLT, rule R187. -/
  | slt (rd rs1 rs2 : Reg)
  /-- SLTU, rule R188. -/
  | sltu (rd rs1 rs2 : Reg)
  /-- XOR, rule R189. -/
  | xor (rd rs1 rs2 : Reg)
  /-- SRL, rule R190. -/
  | srl (rd rs1 rs2 : Reg)
  /-- SRA, rule R191. -/
  | sra (rd rs1 rs2 : Reg)
  /-- OR, rule R192. -/
  | or (rd rs1 rs2 : Reg)
  /-- AND, rule R193. -/
  | and (rd rs1 rs2 : Reg)
  /-- ADDIW, rule R194. -/
  | addiw (rd rs1 : Reg) (imm : BitVec 12)
  /-- SLLIW, rule R195. -/
  | slliw (rd rs1 : Reg) (shamt : BitVec 5)
  /-- SRLIW, rule R196. -/
  | srliw (rd rs1 : Reg) (shamt : BitVec 5)
  /-- SRAIW, rule R197. -/
  | sraiw (rd rs1 : Reg) (shamt : BitVec 5)
  /-- ADDW, rule R198. -/
  | addw (rd rs1 rs2 : Reg)
  /-- SUBW, rule R199. -/
  | subw (rd rs1 rs2 : Reg)
  /-- SLLW, rule R200. -/
  | sllw (rd rs1 rs2 : Reg)
  /-- SRLW, rule R201. -/
  | srlw (rd rs1 rs2 : Reg)
  /-- SRAW, rule R202. -/
  | sraw (rd rs1 rs2 : Reg)
  /-- MUL, rule R203. -/
  | mul (rd rs1 rs2 : Reg)
  /-- MULH, rule R204. -/
  | mulh (rd rs1 rs2 : Reg)
  /-- MULHSU, rule R205. -/
  | mulhsu (rd rs1 rs2 : Reg)
  /-- MULHU, rule R206. -/
  | mulhu (rd rs1 rs2 : Reg)
  /-- DIV, rule R207. -/
  | div (rd rs1 rs2 : Reg)
  /-- DIVU, rule R208. -/
  | divu (rd rs1 rs2 : Reg)
  /-- REM, rule R209. -/
  | rem (rd rs1 rs2 : Reg)
  /-- REMU, rule R211. -/
  | remu (rd rs1 rs2 : Reg)
  /-- MULW, rule R210. -/
  | mulw (rd rs1 rs2 : Reg)
  /-- DIVW, rule R212. -/
  | divw (rd rs1 rs2 : Reg)
  /-- DIVUW, rule R213. -/
  | divuw (rd rs1 rs2 : Reg)
  /-- REMW, rule R214. -/
  | remw (rd rs1 rs2 : Reg)
  /-- REMUW, rule R215. -/
  | remuw (rd rs1 rs2 : Reg)
  -- Control transfer (spec/41_control_transfer.md)
  /-- JAL, rule R253. -/
  | jal (rd : Reg) (offset : BitVec 21)
  /-- JALR, rule R254. -/
  | jalr (rd rs1 : Reg) (imm : BitVec 12)
  /-- BEQ, rule R255. -/
  | beq (rs1 rs2 : Reg) (offset : BitVec 13)
  /-- BNE, rule R256. -/
  | bne (rs1 rs2 : Reg) (offset : BitVec 13)
  /-- BLT, rule R257. -/
  | blt (rs1 rs2 : Reg) (offset : BitVec 13)
  /-- BGE, rule R258. -/
  | bge (rs1 rs2 : Reg) (offset : BitVec 13)
  /-- BLTU, rule R259. -/
  | bltu (rs1 rs2 : Reg) (offset : BitVec 13)
  /-- BGEU, rule R260. -/
  | bgeu (rs1 rs2 : Reg) (offset : BitVec 13)
  -- Loads, stores, fences (spec/42_load_store_fence.md)
  /-- LB, rule R273. -/
  | lb (rd rs1 : Reg) (imm : BitVec 12)
  /-- LH, rule R274. -/
  | lh (rd rs1 : Reg) (imm : BitVec 12)
  /-- LW, rule R275. -/
  | lw (rd rs1 : Reg) (imm : BitVec 12)
  /-- LD, rule R276. -/
  | ld (rd rs1 : Reg) (imm : BitVec 12)
  /-- LBU, rule R277. -/
  | lbu (rd rs1 : Reg) (imm : BitVec 12)
  /-- LHU, rule R278. -/
  | lhu (rd rs1 : Reg) (imm : BitVec 12)
  /-- LWU, rule R279. -/
  | lwu (rd rs1 : Reg) (imm : BitVec 12)
  /-- SB, rule R280. -/
  | sb (rs2 rs1 : Reg) (imm : BitVec 12)
  /-- SH, rule R281. -/
  | sh (rs2 rs1 : Reg) (imm : BitVec 12)
  /-- SW, rule R282. -/
  | sw (rs2 rs1 : Reg) (imm : BitVec 12)
  /-- SD, rule R283. -/
  | sd (rs2 rs1 : Reg) (imm : BitVec 12)
  /-- FENCE, rule R284. -/
  | fence (fm pred succ : BitVec 4) (rs1 rd : Reg)
  /-- FENCE.I, rule R285. -/
  | fenceI (imm : BitVec 12) (rs1 rd : Reg)
  -- Environment call, breakpoint, CSR access (spec/43_csr_system.md)
  /-- ECALL, rule R308. -/
  | ecall
  /-- EBREAK, rule R309. -/
  | ebreak
  /-- CSRRW, rule R302. -/
  | csrrw (rd : Reg) (csr : BitVec 12) (rs1 : Reg)
  /-- CSRRS, rule R303. -/
  | csrrs (rd : Reg) (csr : BitVec 12) (rs1 : Reg)
  /-- CSRRC, rule R304. -/
  | csrrc (rd : Reg) (csr : BitVec 12) (rs1 : Reg)
  /-- CSRRWI, rule R305. -/
  | csrrwi (rd : Reg) (csr : BitVec 12) (uimm : BitVec 5)
  /-- CSRRSI, rule R306. -/
  | csrrsi (rd : Reg) (csr : BitVec 12) (uimm : BitVec 5)
  /-- CSRRCI, rule R307. -/
  | csrrci (rd : Reg) (csr : BitVec 12) (uimm : BitVec 5)
  -- Atomics (spec/49_atomics_monitor.md)
  /-- LR.W, rule R537. -/
  | lrW (rd rs1 : Reg) (aq rl : BitVec 1)
  /-- LR.D, rule R538. -/
  | lrD (rd rs1 : Reg) (aq rl : BitVec 1)
  /-- SC.W, rule R539. -/
  | scW (rd rs2 rs1 : Reg) (aq rl : BitVec 1)
  /-- SC.D, rule R540. -/
  | scD (rd rs2 rs1 : Reg) (aq rl : BitVec 1)
  /-- AMOSWAP.W, rule R542. -/
  | amoswapW (rd rs2 rs1 : Reg) (aq rl : BitVec 1)
  /-- AMOADD.W, rule R543. -/
  | amoaddW (rd rs2 rs1 : Reg) (aq rl : BitVec 1)
  /-- AMOXOR.W, rule R544. -/
  | amoxorW (rd rs2 rs1 : Reg) (aq rl : BitVec 1)
  /-- AMOAND.W, rule R545. -/
  | amoandW (rd rs2 rs1 : Reg) (aq rl : BitVec 1)
  /-- AMOOR.W, rule R546. -/
  | amoorW (rd rs2 rs1 : Reg) (aq rl : BitVec 1)
  /-- AMOMIN.W, rule R547. -/
  | amominW (rd rs2 rs1 : Reg) (aq rl : BitVec 1)
  /-- AMOMAX.W, rule R548. -/
  | amomaxW (rd rs2 rs1 : Reg) (aq rl : BitVec 1)
  /-- AMOMINU.W, rule R549. -/
  | amominuW (rd rs2 rs1 : Reg) (aq rl : BitVec 1)
  /-- AMOMAXU.W, rule R550. -/
  | amomaxuW (rd rs2 rs1 : Reg) (aq rl : BitVec 1)
  /-- AMOSWAP.D, rule R551. -/
  | amoswapD (rd rs2 rs1 : Reg) (aq rl : BitVec 1)
  /-- AMOADD.D, rule R552. -/
  | amoaddD (rd rs2 rs1 : Reg) (aq rl : BitVec 1)
  /-- AMOXOR.D, rule R553. -/
  | amoxorD (rd rs2 rs1 : Reg) (aq rl : BitVec 1)
  /-- AMOAND.D, rule R554. -/
  | amoandD (rd rs2 rs1 : Reg) (aq rl : BitVec 1)
  /-- AMOOR.D, rule R555. -/
  | amoorD (rd rs2 rs1 : Reg) (aq rl : BitVec 1)
  /-- AMOMIN.D, rule R556. -/
  | amominD (rd rs2 rs1 : Reg) (aq rl : BitVec 1)
  /-- AMOMAX.D, rule R557. -/
  | amomaxD (rd rs2 rs1 : Reg) (aq rl : BitVec 1)
  /-- AMOMINU.D, rule R558. -/
  | amominuD (rd rs2 rs1 : Reg) (aq rl : BitVec 1)
  /-- AMOMAXU.D, rule R559. -/
  | amomaxuD (rd rs2 rs1 : Reg) (aq rl : BitVec 1)
  -- Single precision (spec/46_fp_single.md)
  /-- FLW, rule R420. -/
  | flw (rd rs1 : Reg) (imm : BitVec 12)
  /-- FSW, rule R421. -/
  | fsw (rs2 rs1 : Reg) (imm : BitVec 12)
  /-- FMADD.S, rule R422. -/
  | fmaddS (rd rs1 rs2 rs3 : Reg) (rm : BitVec 3)
  /-- FMSUB.S, rule R423. -/
  | fmsubS (rd rs1 rs2 rs3 : Reg) (rm : BitVec 3)
  /-- FNMSUB.S, rule R424. -/
  | fnmsubS (rd rs1 rs2 rs3 : Reg) (rm : BitVec 3)
  /-- FNMADD.S, rule R425. -/
  | fnmaddS (rd rs1 rs2 rs3 : Reg) (rm : BitVec 3)
  /-- FADD.S, rule R426. -/
  | faddS (rd rs1 rs2 : Reg) (rm : BitVec 3)
  /-- FSUB.S, rule R427. -/
  | fsubS (rd rs1 rs2 : Reg) (rm : BitVec 3)
  /-- FMUL.S, rule R428. -/
  | fmulS (rd rs1 rs2 : Reg) (rm : BitVec 3)
  /-- FDIV.S, rule R429. -/
  | fdivS (rd rs1 rs2 : Reg) (rm : BitVec 3)
  /-- FSQRT.S, rule R430. -/
  | fsqrtS (rd rs1 : Reg) (rm : BitVec 3)
  /-- FSGNJ.S, rule R431. -/
  | fsgnjS (rd rs1 rs2 : Reg)
  /-- FSGNJN.S, rule R432. -/
  | fsgnjnS (rd rs1 rs2 : Reg)
  /-- FSGNJX.S, rule R433. -/
  | fsgnjxS (rd rs1 rs2 : Reg)
  /-- FMIN.S, rule R434. -/
  | fminS (rd rs1 rs2 : Reg)
  /-- FMAX.S, rule R435. -/
  | fmaxS (rd rs1 rs2 : Reg)
  /-- FLE.S, rule R442. -/
  | fleS (rd rs1 rs2 : Reg)
  /-- FLT.S, rule R441. -/
  | fltS (rd rs1 rs2 : Reg)
  /-- FEQ.S, rule R440. -/
  | feqS (rd rs1 rs2 : Reg)
  /-- FCVT.W.S, rule R436. -/
  | fcvtWS (rd rs1 : Reg) (rm : BitVec 3)
  /-- FCVT.S.W, rule R445. -/
  | fcvtSW (rd rs1 : Reg) (rm : BitVec 3)
  /-- FCVT.WU.S, rule R437. -/
  | fcvtWuS (rd rs1 : Reg) (rm : BitVec 3)
  /-- FCVT.S.WU, rule R446. -/
  | fcvtSWu (rd rs1 : Reg) (rm : BitVec 3)
  /-- FCVT.L.S, rule R438. -/
  | fcvtLS (rd rs1 : Reg) (rm : BitVec 3)
  /-- FCVT.S.L, rule R447. -/
  | fcvtSL (rd rs1 : Reg) (rm : BitVec 3)
  /-- FCVT.LU.S, rule R439. -/
  | fcvtLuS (rd rs1 : Reg) (rm : BitVec 3)
  /-- FCVT.S.LU, rule R448. -/
  | fcvtSLu (rd rs1 : Reg) (rm : BitVec 3)
  /-- FMV.X.W, rule R443. -/
  | fmvXW (rd rs1 : Reg)
  /-- FCLASS.S, rule R444. -/
  | fclassS (rd rs1 : Reg)
  /-- FMV.W.X, rule R449. -/
  | fmvWX (rd rs1 : Reg)
  -- Double precision (spec/47_fp_double.md)
  /-- FLD, rule R460. -/
  | fld (rd rs1 : Reg) (imm : BitVec 12)
  /-- FSD, rule R461. -/
  | fsd (rs2 rs1 : Reg) (imm : BitVec 12)
  /-- FMADD.D, rule R462. -/
  | fmaddD (rd rs1 rs2 rs3 : Reg) (rm : BitVec 3)
  /-- FMSUB.D, rule R463. -/
  | fmsubD (rd rs1 rs2 rs3 : Reg) (rm : BitVec 3)
  /-- FNMSUB.D, rule R464. -/
  | fnmsubD (rd rs1 rs2 rs3 : Reg) (rm : BitVec 3)
  /-- FNMADD.D, rule R465. -/
  | fnmaddD (rd rs1 rs2 rs3 : Reg) (rm : BitVec 3)
  /-- FADD.D, rule R466. -/
  | faddD (rd rs1 rs2 : Reg) (rm : BitVec 3)
  /-- FSUB.D, rule R467. -/
  | fsubD (rd rs1 rs2 : Reg) (rm : BitVec 3)
  /-- FMUL.D, rule R468. -/
  | fmulD (rd rs1 rs2 : Reg) (rm : BitVec 3)
  /-- FDIV.D, rule R469. -/
  | fdivD (rd rs1 rs2 : Reg) (rm : BitVec 3)
  /-- FSQRT.D, rule R470. -/
  | fsqrtD (rd rs1 : Reg) (rm : BitVec 3)
  /-- FSGNJ.D, rule R471. -/
  | fsgnjD (rd rs1 rs2 : Reg)
  /-- FSGNJN.D, rule R472. -/
  | fsgnjnD (rd rs1 rs2 : Reg)
  /-- FSGNJX.D, rule R473. -/
  | fsgnjxD (rd rs1 rs2 : Reg)
  /-- FMIN.D, rule R474. -/
  | fminD (rd rs1 rs2 : Reg)
  /-- FMAX.D, rule R475. -/
  | fmaxD (rd rs1 rs2 : Reg)
  /-- FLE.D, rule R480. -/
  | fleD (rd rs1 rs2 : Reg)
  /-- FLT.D, rule R479. -/
  | fltD (rd rs1 rs2 : Reg)
  /-- FEQ.D, rule R478. -/
  | feqD (rd rs1 rs2 : Reg)
  /-- FCVT.W.D, rule R482. -/
  | fcvtWD (rd rs1 : Reg) (rm : BitVec 3)
  /-- FCVT.D.W, rule R486. -/
  | fcvtDW (rd rs1 : Reg) (rm : BitVec 3)
  /-- FCVT.WU.D, rule R483. -/
  | fcvtWuD (rd rs1 : Reg) (rm : BitVec 3)
  /-- FCVT.D.WU, rule R487. -/
  | fcvtDWu (rd rs1 : Reg) (rm : BitVec 3)
  /-- FCVT.L.D, rule R484. -/
  | fcvtLD (rd rs1 : Reg) (rm : BitVec 3)
  /-- FCVT.D.L, rule R488. -/
  | fcvtDL (rd rs1 : Reg) (rm : BitVec 3)
  /-- FCVT.LU.D, rule R485. -/
  | fcvtLuD (rd rs1 : Reg) (rm : BitVec 3)
  /-- FCVT.D.LU, rule R489. -/
  | fcvtDLu (rd rs1 : Reg) (rm : BitVec 3)
  /-- FMV.X.D, rule R490. -/
  | fmvXD (rd rs1 : Reg)
  /-- FCLASS.D, rule R481. -/
  | fclassD (rd rs1 : Reg)
  /-- FMV.D.X, rule R491. -/
  | fmvDX (rd rs1 : Reg)
  /-- FCVT.S.D, rule R476. -/
  | fcvtSD (rd rs1 : Reg) (rm : BitVec 3)
  /-- FCVT.D.S, rule R477. -/
  | fcvtDS (rd rs1 : Reg) (rm : BitVec 3)
  -- Compressed (spec/44_compressed.md)
  /-- C.ADDI4SPN, rule R321. -/
  | cAddi4spn (rd : CReg) (nzuimm : BitVec 10)
  /-- C.FLD, rule R322. -/
  | cFld (rd rs1 : CReg) (uimm : BitVec 8)
  /-- C.LW, rule R323. -/
  | cLw (rd rs1 : CReg) (uimm : BitVec 7)
  /-- C.LD, rule R324. -/
  | cLd (rd rs1 : CReg) (uimm : BitVec 8)
  /-- C.FSD, rule R325. -/
  | cFsd (rs2 rs1 : CReg) (uimm : BitVec 8)
  /-- C.SW, rule R326. -/
  | cSw (rs2 rs1 : CReg) (uimm : BitVec 7)
  /-- C.SD, rule R327. -/
  | cSd (rs2 rs1 : CReg) (uimm : BitVec 8)
  /-- C.NOP, rule R328. -/
  | cNop (imm : BitVec 6)
  /-- C.ADDI, rule R329. -/
  | cAddi (rd : Reg) (imm : BitVec 6)
  /-- C.ADDIW, rule R330. -/
  | cAddiw (rd : Reg) (imm : BitVec 6)
  /-- C.LI, rule R331. -/
  | cLi (rd : Reg) (imm : BitVec 6)
  /-- C.ADDI16SP, rule R332. -/
  | cAddi16sp (nzimm : BitVec 10)
  /-- C.LUI, rule R333. -/
  | cLui (rd : Reg) (nzimm : BitVec 6)
  /-- C.SRLI, rule R334. -/
  | cSrli (rd : CReg) (shamt : BitVec 6)
  /-- C.SRAI, rule R335. -/
  | cSrai (rd : CReg) (shamt : BitVec 6)
  /-- C.ANDI, rule R336. -/
  | cAndi (rd : CReg) (imm : BitVec 6)
  /-- C.SUB, rule R337. -/
  | cSub (rd rs2 : CReg)
  /-- C.XOR, rule R338. -/
  | cXor (rd rs2 : CReg)
  /-- C.OR, rule R339. -/
  | cOr (rd rs2 : CReg)
  /-- C.AND, rule R340. -/
  | cAnd (rd rs2 : CReg)
  /-- C.SUBW, rule R341. -/
  | cSubw (rd rs2 : CReg)
  /-- C.ADDW, rule R342. -/
  | cAddw (rd rs2 : CReg)
  /-- C.J, rule R343. -/
  | cJ (offset : BitVec 12)
  /-- C.BEQZ, rule R344. -/
  | cBeqz (rs1 : CReg) (offset : BitVec 9)
  /-- C.BNEZ, rule R345. -/
  | cBnez (rs1 : CReg) (offset : BitVec 9)
  /-- C.SLLI, rule R346. -/
  | cSlli (rd : Reg) (shamt : BitVec 6)
  /-- C.FLDSP, rule R347. -/
  | cFldsp (rd : Reg) (uimm : BitVec 9)
  /-- C.LWSP, rule R348. -/
  | cLwsp (rd : Reg) (uimm : BitVec 8)
  /-- C.LDSP, rule R349. -/
  | cLdsp (rd : Reg) (uimm : BitVec 9)
  /-- C.JR, rule R350. -/
  | cJr (rs1 : Reg)
  /-- C.MV, rule R351. -/
  | cMv (rd rs2 : Reg)
  /-- C.EBREAK, rule R352. -/
  | cEbreak
  /-- C.JALR, rule R353. -/
  | cJalr (rs1 : Reg)
  /-- C.ADD, rule R354. -/
  | cAdd (rd rs2 : Reg)
  /-- C.FSDSP, rule R355. -/
  | cFsdsp (rs2 : Reg) (uimm : BitVec 9)
  /-- C.SWSP, rule R356. -/
  | cSwsp (rs2 : Reg) (uimm : BitVec 8)
  /-- C.SDSP, rule R357. -/
  | cSdsp (rs2 : Reg) (uimm : BitVec 9)
  deriving DecidableEq, Repr

end Sys2Proof
end

