-- ==== Sys2Proof/WellFormed.lean ====
section
/-! DEFINITION. When an instruction's operands are ones its encoding can hold: the parity and multiple-of conditions of the
immediates and the `!= 0`, `!= 2` constraints of the compressed rows of spec/opcode_table.json (spec/30_encoding.md rules
R143 to R146, R149). -/

namespace Sys2Proof

/-- A byte offset that is a multiple of 2 (spec/41_control_transfer.md rule R251). -/
def WellFormed.even {n : Nat} (v : BitVec n) : Bool := v.extractLsb' 0 1 == 0#1

/-- A multiple of 4. -/
def WellFormed.low2 {n : Nat} (v : BitVec n) : Bool := v.extractLsb' 0 2 == 0#2

/-- A multiple of 8. -/
def WellFormed.low3 {n : Nat} (v : BitVec n) : Bool := v.extractLsb' 0 3 == 0#3

/-- A multiple of 16. -/
def WellFormed.low4 {n : Nat} (v : BitVec n) : Bool := v.extractLsb' 0 4 == 0#4

/-- A register or immediate field the row's constraint forbids to be zero. -/
def WellFormed.nonzero {n : Nat} (v : BitVec n) : Bool := v != 0#n

/-- The destination of C.LUI is not x2 (spec/44_compressed.md rule R333). -/
def WellFormed.notSp (rd : Reg) : Bool := rd != 2#5

open WellFormed in
/-- The operands of `i` are ones a word of its row can hold. -/
def Instr.wf : Instr → Bool
  | .lui _ _ => true
  | .auipc _ _ => true
  | .addi _ _ _ => true
  | .slti _ _ _ => true
  | .sltiu _ _ _ => true
  | .xori _ _ _ => true
  | .ori _ _ _ => true
  | .andi _ _ _ => true
  | .slli _ _ _ => true
  | .srli _ _ _ => true
  | .srai _ _ _ => true
  | .add _ _ _ => true
  | .sub _ _ _ => true
  | .sll _ _ _ => true
  | .slt _ _ _ => true
  | .sltu _ _ _ => true
  | .xor _ _ _ => true
  | .srl _ _ _ => true
  | .sra _ _ _ => true
  | .or _ _ _ => true
  | .and _ _ _ => true
  | .addiw _ _ _ => true
  | .slliw _ _ _ => true
  | .srliw _ _ _ => true
  | .sraiw _ _ _ => true
  | .addw _ _ _ => true
  | .subw _ _ _ => true
  | .sllw _ _ _ => true
  | .srlw _ _ _ => true
  | .sraw _ _ _ => true
  | .mul _ _ _ => true
  | .mulh _ _ _ => true
  | .mulhsu _ _ _ => true
  | .mulhu _ _ _ => true
  | .div _ _ _ => true
  | .divu _ _ _ => true
  | .rem _ _ _ => true
  | .remu _ _ _ => true
  | .mulw _ _ _ => true
  | .divw _ _ _ => true
  | .divuw _ _ _ => true
  | .remw _ _ _ => true
  | .remuw _ _ _ => true
  | .jal _ offset => even offset
  | .jalr _ _ _ => true
  | .beq _ _ offset => even offset
  | .bne _ _ offset => even offset
  | .blt _ _ offset => even offset
  | .bge _ _ offset => even offset
  | .bltu _ _ offset => even offset
  | .bgeu _ _ offset => even offset
  | .lb _ _ _ => true
  | .lh _ _ _ => true
  | .lw _ _ _ => true
  | .ld _ _ _ => true
  | .lbu _ _ _ => true
  | .lhu _ _ _ => true
  | .lwu _ _ _ => true
  | .sb _ _ _ => true
  | .sh _ _ _ => true
  | .sw _ _ _ => true
  | .sd _ _ _ => true
  | .fence _ _ _ _ _ => true
  | .fenceI _ _ _ => true
  | .ecall => true
  | .ebreak => true
  | .csrrw _ _ _ => true
  | .csrrs _ _ _ => true
  | .csrrc _ _ _ => true
  | .csrrwi _ _ _ => true
  | .csrrsi _ _ _ => true
  | .csrrci _ _ _ => true
  | .lrW _ _ _ _ => true
  | .lrD _ _ _ _ => true
  | .scW _ _ _ _ _ => true
  | .scD _ _ _ _ _ => true
  | .amoswapW _ _ _ _ _ => true
  | .amoaddW _ _ _ _ _ => true
  | .amoxorW _ _ _ _ _ => true
  | .amoandW _ _ _ _ _ => true
  | .amoorW _ _ _ _ _ => true
  | .amominW _ _ _ _ _ => true
  | .amomaxW _ _ _ _ _ => true
  | .amominuW _ _ _ _ _ => true
  | .amomaxuW _ _ _ _ _ => true
  | .amoswapD _ _ _ _ _ => true
  | .amoaddD _ _ _ _ _ => true
  | .amoxorD _ _ _ _ _ => true
  | .amoandD _ _ _ _ _ => true
  | .amoorD _ _ _ _ _ => true
  | .amominD _ _ _ _ _ => true
  | .amomaxD _ _ _ _ _ => true
  | .amominuD _ _ _ _ _ => true
  | .amomaxuD _ _ _ _ _ => true
  | .flw _ _ _ => true
  | .fsw _ _ _ => true
  | .fmaddS _ _ _ _ _ => true
  | .fmsubS _ _ _ _ _ => true
  | .fnmsubS _ _ _ _ _ => true
  | .fnmaddS _ _ _ _ _ => true
  | .faddS _ _ _ _ => true
  | .fsubS _ _ _ _ => true
  | .fmulS _ _ _ _ => true
  | .fdivS _ _ _ _ => true
  | .fsqrtS _ _ _ => true
  | .fsgnjS _ _ _ => true
  | .fsgnjnS _ _ _ => true
  | .fsgnjxS _ _ _ => true
  | .fminS _ _ _ => true
  | .fmaxS _ _ _ => true
  | .fleS _ _ _ => true
  | .fltS _ _ _ => true
  | .feqS _ _ _ => true
  | .fcvtWS _ _ _ => true
  | .fcvtSW _ _ _ => true
  | .fcvtWuS _ _ _ => true
  | .fcvtSWu _ _ _ => true
  | .fcvtLS _ _ _ => true
  | .fcvtSL _ _ _ => true
  | .fcvtLuS _ _ _ => true
  | .fcvtSLu _ _ _ => true
  | .fmvXW _ _ => true
  | .fclassS _ _ => true
  | .fmvWX _ _ => true
  | .fld _ _ _ => true
  | .fsd _ _ _ => true
  | .fmaddD _ _ _ _ _ => true
  | .fmsubD _ _ _ _ _ => true
  | .fnmsubD _ _ _ _ _ => true
  | .fnmaddD _ _ _ _ _ => true
  | .faddD _ _ _ _ => true
  | .fsubD _ _ _ _ => true
  | .fmulD _ _ _ _ => true
  | .fdivD _ _ _ _ => true
  | .fsqrtD _ _ _ => true
  | .fsgnjD _ _ _ => true
  | .fsgnjnD _ _ _ => true
  | .fsgnjxD _ _ _ => true
  | .fminD _ _ _ => true
  | .fmaxD _ _ _ => true
  | .fleD _ _ _ => true
  | .fltD _ _ _ => true
  | .feqD _ _ _ => true
  | .fcvtWD _ _ _ => true
  | .fcvtDW _ _ _ => true
  | .fcvtWuD _ _ _ => true
  | .fcvtDWu _ _ _ => true
  | .fcvtLD _ _ _ => true
  | .fcvtDL _ _ _ => true
  | .fcvtLuD _ _ _ => true
  | .fcvtDLu _ _ _ => true
  | .fmvXD _ _ => true
  | .fclassD _ _ => true
  | .fmvDX _ _ => true
  | .fcvtSD _ _ _ => true
  | .fcvtDS _ _ _ => true
  | .cAddi4spn _ nzuimm => low2 nzuimm && nonzero nzuimm
  | .cFld _ _ uimm => low3 uimm
  | .cLw _ _ uimm => low2 uimm
  | .cLd _ _ uimm => low3 uimm
  | .cFsd _ _ uimm => low3 uimm
  | .cSw _ _ uimm => low2 uimm
  | .cSd _ _ uimm => low3 uimm
  | .cNop _ => true
  | .cAddi rd _ => nonzero rd
  | .cAddiw rd _ => nonzero rd
  | .cLi _ _ => true
  | .cAddi16sp nzimm => low4 nzimm && nonzero nzimm
  | .cLui rd nzimm => notSp rd && nonzero nzimm
  | .cSrli _ _ => true
  | .cSrai _ _ => true
  | .cAndi _ _ => true
  | .cSub _ _ => true
  | .cXor _ _ => true
  | .cOr _ _ => true
  | .cAnd _ _ => true
  | .cSubw _ _ => true
  | .cAddw _ _ => true
  | .cJ offset => even offset
  | .cBeqz _ offset => even offset
  | .cBnez _ offset => even offset
  | .cSlli _ _ => true
  | .cFldsp _ uimm => low3 uimm
  | .cLwsp rd uimm => low2 uimm && nonzero rd
  | .cLdsp rd uimm => low3 uimm && nonzero rd
  | .cJr rs1 => nonzero rs1
  | .cMv _ rs2 => nonzero rs2
  | .cEbreak => true
  | .cJalr rs1 => nonzero rs1
  | .cAdd _ rs2 => nonzero rs2
  | .cFsdsp _ uimm => low3 uimm
  | .cSwsp _ uimm => low2 uimm
  | .cSdsp _ uimm => low3 uimm

end Sys2Proof
end

