-- ==== Sys2Proof/Decode.lean ====
section
/-! DEFINITION. The decoder (spec/30_encoding.md): total on any bytes, refusing by name; after it the encoder, written from
the same encoding tables, and the rows of spec/opcode_table.json as masks and patterns. Every bit position and value is the
spec's own (marked there as from general knowledge); the rule each definition follows is named with it. -/

namespace Sys2Proof

/-! ### Immediates of the 32-bit formats (rules R123, R134); sign extension is done where the value is used -/

/-- `inst[31:20]`. -/
def immI (w : BitVec 32) : BitVec 12 := w.extractLsb' 20 12

/-- `inst[31:25] || inst[11:7]`. -/
def immS (w : BitVec 32) : BitVec 12 := w.extractLsb' 25 7 ++ w.extractLsb' 7 5

/-- `inst[31] || inst[7] || inst[30:25] || inst[11:8] || 0`. -/
def immB (w : BitVec 32) : BitVec 13 :=
  w.extractLsb' 31 1 ++ w.extractLsb' 7 1 ++ w.extractLsb' 25 6 ++ w.extractLsb' 8 4 ++ 0#1

/-- `inst[31:12]`. -/
def immU (w : BitVec 32) : BitVec 20 := w.extractLsb' 12 20

/-- `inst[31] || inst[19:12] || inst[20] || inst[30:21] || 0`. -/
def immJ (w : BitVec 32) : BitVec 21 :=
  w.extractLsb' 31 1 ++ w.extractLsb' 12 8 ++ w.extractLsb' 20 1 ++ w.extractLsb' 21 10 ++ 0#1

/-! ### Fields of the 32-bit formats (rules R122 to R124) -/

def fieldOpcode (w : BitVec 32) : BitVec 7 := w.extractLsb' 0 7
def fieldRd (w : BitVec 32) : Reg := w.extractLsb' 7 5
def fieldFunct3 (w : BitVec 32) : BitVec 3 := w.extractLsb' 12 3
def fieldRs1 (w : BitVec 32) : Reg := w.extractLsb' 15 5
def fieldRs2 (w : BitVec 32) : Reg := w.extractLsb' 20 5
def fieldFunct7 (w : BitVec 32) : BitVec 7 := w.extractLsb' 25 7
def fieldRs3 (w : BitVec 32) : Reg := w.extractLsb' 27 5
def fieldFmt (w : BitVec 32) : BitVec 2 := w.extractLsb' 25 2
def fieldShamt6 (w : BitVec 32) : BitVec 6 := w.extractLsb' 20 6
def fieldFunct6 (w : BitVec 32) : BitVec 6 := w.extractLsb' 26 6
def fieldFunct5 (w : BitVec 32) : BitVec 5 := w.extractLsb' 27 5
def fieldAq (w : BitVec 32) : BitVec 1 := w.extractLsb' 26 1
def fieldRl (w : BitVec 32) : BitVec 1 := w.extractLsb' 25 1

/-! ### The 32-bit instructions, by major opcode (rules R135 to R138) -/

/-- OP-IMM, opcode 0010011 (rule R136). -/
def decodeOpImm (w : BitVec 32) : Option Instr :=
  match fieldFunct3 w with
  | 0b000 => some (.addi (fieldRd w) (fieldRs1 w) (immI w))
  | 0b010 => some (.slti (fieldRd w) (fieldRs1 w) (immI w))
  | 0b011 => some (.sltiu (fieldRd w) (fieldRs1 w) (immI w))
  | 0b100 => some (.xori (fieldRd w) (fieldRs1 w) (immI w))
  | 0b110 => some (.ori (fieldRd w) (fieldRs1 w) (immI w))
  | 0b111 => some (.andi (fieldRd w) (fieldRs1 w) (immI w))
  | 0b001 =>
    match fieldFunct6 w with
    | 0b000000 => some (.slli (fieldRd w) (fieldRs1 w) (fieldShamt6 w))
    | _ => none
  | 0b101 =>
    match fieldFunct6 w with
    | 0b000000 => some (.srli (fieldRd w) (fieldRs1 w) (fieldShamt6 w))
    | 0b010000 => some (.srai (fieldRd w) (fieldRs1 w) (fieldShamt6 w))
    | _ => none

/-- OP-IMM-32, opcode 0011011 (rule R136). -/
def decodeOpImm32 (w : BitVec 32) : Option Instr :=
  match fieldFunct3 w with
  | 0b000 => some (.addiw (fieldRd w) (fieldRs1 w) (immI w))
  | 0b001 =>
    match fieldFunct7 w with
    | 0b0000000 => some (.slliw (fieldRd w) (fieldRs1 w) (fieldRs2 w))
    | _ => none
  | 0b101 =>
    match fieldFunct7 w with
    | 0b0000000 => some (.srliw (fieldRd w) (fieldRs1 w) (fieldRs2 w))
    | 0b0100000 => some (.sraiw (fieldRd w) (fieldRs1 w) (fieldRs2 w))
    | _ => none
  | _ => none

/-- OP, opcode 0110011 (rule R136). -/
def decodeOp (w : BitVec 32) : Option Instr :=
  match fieldFunct7 w with
  | 0b0000000 =>
    match fieldFunct3 w with
    | 0b000 => some (.add (fieldRd w) (fieldRs1 w) (fieldRs2 w))
    | 0b001 => some (.sll (fieldRd w) (fieldRs1 w) (fieldRs2 w))
    | 0b010 => some (.slt (fieldRd w) (fieldRs1 w) (fieldRs2 w))
    | 0b011 => some (.sltu (fieldRd w) (fieldRs1 w) (fieldRs2 w))
    | 0b100 => some (.xor (fieldRd w) (fieldRs1 w) (fieldRs2 w))
    | 0b101 => some (.srl (fieldRd w) (fieldRs1 w) (fieldRs2 w))
    | 0b110 => some (.or (fieldRd w) (fieldRs1 w) (fieldRs2 w))
    | 0b111 => some (.and (fieldRd w) (fieldRs1 w) (fieldRs2 w))
  | 0b0100000 =>
    match fieldFunct3 w with
    | 0b000 => some (.sub (fieldRd w) (fieldRs1 w) (fieldRs2 w))
    | 0b101 => some (.sra (fieldRd w) (fieldRs1 w) (fieldRs2 w))
    | _ => none
  | 0b0000001 =>
    match fieldFunct3 w with
    | 0b000 => some (.mul (fieldRd w) (fieldRs1 w) (fieldRs2 w))
    | 0b001 => some (.mulh (fieldRd w) (fieldRs1 w) (fieldRs2 w))
    | 0b010 => some (.mulhsu (fieldRd w) (fieldRs1 w) (fieldRs2 w))
    | 0b011 => some (.mulhu (fieldRd w) (fieldRs1 w) (fieldRs2 w))
    | 0b100 => some (.div (fieldRd w) (fieldRs1 w) (fieldRs2 w))
    | 0b101 => some (.divu (fieldRd w) (fieldRs1 w) (fieldRs2 w))
    | 0b110 => some (.rem (fieldRd w) (fieldRs1 w) (fieldRs2 w))
    | 0b111 => some (.remu (fieldRd w) (fieldRs1 w) (fieldRs2 w))
  | _ => none

/-- OP-32, opcode 0111011 (rule R136). -/
def decodeOp32 (w : BitVec 32) : Option Instr :=
  match fieldFunct7 w with
  | 0b0000000 =>
    match fieldFunct3 w with
    | 0b000 => some (.addw (fieldRd w) (fieldRs1 w) (fieldRs2 w))
    | 0b001 => some (.sllw (fieldRd w) (fieldRs1 w) (fieldRs2 w))
    | 0b101 => some (.srlw (fieldRd w) (fieldRs1 w) (fieldRs2 w))
    | _ => none
  | 0b0100000 =>
    match fieldFunct3 w with
    | 0b000 => some (.subw (fieldRd w) (fieldRs1 w) (fieldRs2 w))
    | 0b101 => some (.sraw (fieldRd w) (fieldRs1 w) (fieldRs2 w))
    | _ => none
  | 0b0000001 =>
    match fieldFunct3 w with
    | 0b000 => some (.mulw (fieldRd w) (fieldRs1 w) (fieldRs2 w))
    | 0b100 => some (.divw (fieldRd w) (fieldRs1 w) (fieldRs2 w))
    | 0b101 => some (.divuw (fieldRd w) (fieldRs1 w) (fieldRs2 w))
    | 0b110 => some (.remw (fieldRd w) (fieldRs1 w) (fieldRs2 w))
    | 0b111 => some (.remuw (fieldRd w) (fieldRs1 w) (fieldRs2 w))
    | _ => none
  | _ => none

/-- BRANCH, opcode 1100011 (rule R136). -/
def decodeBranch (w : BitVec 32) : Option Instr :=
  match fieldFunct3 w with
  | 0b000 => some (.beq (fieldRs1 w) (fieldRs2 w) (immB w))
  | 0b001 => some (.bne (fieldRs1 w) (fieldRs2 w) (immB w))
  | 0b100 => some (.blt (fieldRs1 w) (fieldRs2 w) (immB w))
  | 0b101 => some (.bge (fieldRs1 w) (fieldRs2 w) (immB w))
  | 0b110 => some (.bltu (fieldRs1 w) (fieldRs2 w) (immB w))
  | 0b111 => some (.bgeu (fieldRs1 w) (fieldRs2 w) (immB w))
  | _ => none

/-- LOAD, opcode 0000011 (rule R136). -/
def decodeLoad (w : BitVec 32) : Option Instr :=
  match fieldFunct3 w with
  | 0b000 => some (.lb (fieldRd w) (fieldRs1 w) (immI w))
  | 0b001 => some (.lh (fieldRd w) (fieldRs1 w) (immI w))
  | 0b010 => some (.lw (fieldRd w) (fieldRs1 w) (immI w))
  | 0b011 => some (.ld (fieldRd w) (fieldRs1 w) (immI w))
  | 0b100 => some (.lbu (fieldRd w) (fieldRs1 w) (immI w))
  | 0b101 => some (.lhu (fieldRd w) (fieldRs1 w) (immI w))
  | 0b110 => some (.lwu (fieldRd w) (fieldRs1 w) (immI w))
  | _ => none

/-- STORE, opcode 0100011 (rule R136). -/
def decodeStore (w : BitVec 32) : Option Instr :=
  match fieldFunct3 w with
  | 0b000 => some (.sb (fieldRs2 w) (fieldRs1 w) (immS w))
  | 0b001 => some (.sh (fieldRs2 w) (fieldRs1 w) (immS w))
  | 0b010 => some (.sw (fieldRs2 w) (fieldRs1 w) (immS w))
  | 0b011 => some (.sd (fieldRs2 w) (fieldRs1 w) (immS w))
  | _ => none

/-- LOAD-FP, opcode 0000111 (rule R136); the other funct3 values are vector loads or nothing (rule R147). -/
def decodeLoadFp (w : BitVec 32) : Option Instr :=
  match fieldFunct3 w with
  | 0b010 => some (.flw (fieldRd w) (fieldRs1 w) (immI w))
  | 0b011 => some (.fld (fieldRd w) (fieldRs1 w) (immI w))
  | _ => none

/-- STORE-FP, opcode 0100111 (rule R136). -/
def decodeStoreFp (w : BitVec 32) : Option Instr :=
  match fieldFunct3 w with
  | 0b010 => some (.fsw (fieldRs2 w) (fieldRs1 w) (immS w))
  | 0b011 => some (.fsd (fieldRs2 w) (fieldRs1 w) (immS w))
  | _ => none

/-- MISC-MEM, opcode 0001111 (rule R136): all other fields are ignored by the machine and kept here. -/
def decodeMiscMem (w : BitVec 32) : Option Instr :=
  match fieldFunct3 w with
  | 0b000 => some (.fence (w.extractLsb' 28 4) (w.extractLsb' 24 4) (w.extractLsb' 20 4) (fieldRs1 w) (fieldRd w))
  | 0b001 => some (.fenceI (immI w) (fieldRs1 w) (fieldRd w))
  | _ => none

/-- SYSTEM, opcode 1110011 (rule R136): funct3 000 is ECALL and EBREAK and nothing else. -/
def decodeSystem (w : BitVec 32) : Option Instr :=
  match fieldFunct3 w with
  | 0b000 =>
    match w.extractLsb' 7 25 with
    | 0x0000000 => some .ecall
    | 0x0002000 => some .ebreak
    | _ => none
  | 0b001 => some (.csrrw (fieldRd w) (immI w) (fieldRs1 w))
  | 0b010 => some (.csrrs (fieldRd w) (immI w) (fieldRs1 w))
  | 0b011 => some (.csrrc (fieldRd w) (immI w) (fieldRs1 w))
  | 0b100 => none
  | 0b101 => some (.csrrwi (fieldRd w) (immI w) (fieldRs1 w))
  | 0b110 => some (.csrrsi (fieldRd w) (immI w) (fieldRs1 w))
  | 0b111 => some (.csrrci (fieldRd w) (immI w) (fieldRs1 w))

/-- AMO, opcode 0101111 (rule R137). -/
def decodeAmo (w : BitVec 32) : Option Instr :=
  match fieldFunct3 w with
  | 0b010 =>
    match fieldFunct5 w with
    | 0b00010 =>
      match fieldRs2 w with
      | 0b00000 => some (.lrW (fieldRd w) (fieldRs1 w) (fieldAq w) (fieldRl w))
      | _ => none
    | 0b00011 => some (.scW (fieldRd w) (fieldRs2 w) (fieldRs1 w) (fieldAq w) (fieldRl w))
    | 0b00001 => some (.amoswapW (fieldRd w) (fieldRs2 w) (fieldRs1 w) (fieldAq w) (fieldRl w))
    | 0b00000 => some (.amoaddW (fieldRd w) (fieldRs2 w) (fieldRs1 w) (fieldAq w) (fieldRl w))
    | 0b00100 => some (.amoxorW (fieldRd w) (fieldRs2 w) (fieldRs1 w) (fieldAq w) (fieldRl w))
    | 0b01100 => some (.amoandW (fieldRd w) (fieldRs2 w) (fieldRs1 w) (fieldAq w) (fieldRl w))
    | 0b01000 => some (.amoorW (fieldRd w) (fieldRs2 w) (fieldRs1 w) (fieldAq w) (fieldRl w))
    | 0b10000 => some (.amominW (fieldRd w) (fieldRs2 w) (fieldRs1 w) (fieldAq w) (fieldRl w))
    | 0b10100 => some (.amomaxW (fieldRd w) (fieldRs2 w) (fieldRs1 w) (fieldAq w) (fieldRl w))
    | 0b11000 => some (.amominuW (fieldRd w) (fieldRs2 w) (fieldRs1 w) (fieldAq w) (fieldRl w))
    | 0b11100 => some (.amomaxuW (fieldRd w) (fieldRs2 w) (fieldRs1 w) (fieldAq w) (fieldRl w))
    | _ => none
  | 0b011 =>
    match fieldFunct5 w with
    | 0b00010 =>
      match fieldRs2 w with
      | 0b00000 => some (.lrD (fieldRd w) (fieldRs1 w) (fieldAq w) (fieldRl w))
      | _ => none
    | 0b00011 => some (.scD (fieldRd w) (fieldRs2 w) (fieldRs1 w) (fieldAq w) (fieldRl w))
    | 0b00001 => some (.amoswapD (fieldRd w) (fieldRs2 w) (fieldRs1 w) (fieldAq w) (fieldRl w))
    | 0b00000 => some (.amoaddD (fieldRd w) (fieldRs2 w) (fieldRs1 w) (fieldAq w) (fieldRl w))
    | 0b00100 => some (.amoxorD (fieldRd w) (fieldRs2 w) (fieldRs1 w) (fieldAq w) (fieldRl w))
    | 0b01100 => some (.amoandD (fieldRd w) (fieldRs2 w) (fieldRs1 w) (fieldAq w) (fieldRl w))
    | 0b01000 => some (.amoorD (fieldRd w) (fieldRs2 w) (fieldRs1 w) (fieldAq w) (fieldRl w))
    | 0b10000 => some (.amominD (fieldRd w) (fieldRs2 w) (fieldRs1 w) (fieldAq w) (fieldRl w))
    | 0b10100 => some (.amomaxD (fieldRd w) (fieldRs2 w) (fieldRs1 w) (fieldAq w) (fieldRl w))
    | 0b11000 => some (.amominuD (fieldRd w) (fieldRs2 w) (fieldRs1 w) (fieldAq w) (fieldRl w))
    | 0b11100 => some (.amomaxuD (fieldRd w) (fieldRs2 w) (fieldRs1 w) (fieldAq w) (fieldRl w))
    | _ => none
  | _ => none

/-- The fused multiply-add opcodes: `inst[26:25]` selects single or double (rule R138). -/
def decodeFused (single double : Reg → Reg → Reg → Reg → BitVec 3 → Instr) (w : BitVec 32) : Option Instr :=
  match fieldFmt w with
  | 0b00 => some (single (fieldRd w) (fieldRs1 w) (fieldRs2 w) (fieldRs3 w) (fieldFunct3 w))
  | 0b01 => some (double (fieldRd w) (fieldRs1 w) (fieldRs2 w) (fieldRs3 w) (fieldFunct3 w))
  | _ => none

/-- OP-FP, opcode 1010011 (rule R138). -/
def decodeOpFp (w : BitVec 32) : Option Instr :=
  match fieldFunct7 w with
  | 0b0000000 => some (.faddS (fieldRd w) (fieldRs1 w) (fieldRs2 w) (fieldFunct3 w))
  | 0b0000001 => some (.faddD (fieldRd w) (fieldRs1 w) (fieldRs2 w) (fieldFunct3 w))
  | 0b0000100 => some (.fsubS (fieldRd w) (fieldRs1 w) (fieldRs2 w) (fieldFunct3 w))
  | 0b0000101 => some (.fsubD (fieldRd w) (fieldRs1 w) (fieldRs2 w) (fieldFunct3 w))
  | 0b0001000 => some (.fmulS (fieldRd w) (fieldRs1 w) (fieldRs2 w) (fieldFunct3 w))
  | 0b0001001 => some (.fmulD (fieldRd w) (fieldRs1 w) (fieldRs2 w) (fieldFunct3 w))
  | 0b0001100 => some (.fdivS (fieldRd w) (fieldRs1 w) (fieldRs2 w) (fieldFunct3 w))
  | 0b0001101 => some (.fdivD (fieldRd w) (fieldRs1 w) (fieldRs2 w) (fieldFunct3 w))
  | 0b0101100 =>
    match fieldRs2 w with
    | 0b00000 => some (.fsqrtS (fieldRd w) (fieldRs1 w) (fieldFunct3 w))
    | _ => none
  | 0b0101101 =>
    match fieldRs2 w with
    | 0b00000 => some (.fsqrtD (fieldRd w) (fieldRs1 w) (fieldFunct3 w))
    | _ => none
  | 0b0010000 =>
    match fieldFunct3 w with
    | 0b000 => some (.fsgnjS (fieldRd w) (fieldRs1 w) (fieldRs2 w))
    | 0b001 => some (.fsgnjnS (fieldRd w) (fieldRs1 w) (fieldRs2 w))
    | 0b010 => some (.fsgnjxS (fieldRd w) (fieldRs1 w) (fieldRs2 w))
    | _ => none
  | 0b0010001 =>
    match fieldFunct3 w with
    | 0b000 => some (.fsgnjD (fieldRd w) (fieldRs1 w) (fieldRs2 w))
    | 0b001 => some (.fsgnjnD (fieldRd w) (fieldRs1 w) (fieldRs2 w))
    | 0b010 => some (.fsgnjxD (fieldRd w) (fieldRs1 w) (fieldRs2 w))
    | _ => none
  | 0b0010100 =>
    match fieldFunct3 w with
    | 0b000 => some (.fminS (fieldRd w) (fieldRs1 w) (fieldRs2 w))
    | 0b001 => some (.fmaxS (fieldRd w) (fieldRs1 w) (fieldRs2 w))
    | _ => none
  | 0b0010101 =>
    match fieldFunct3 w with
    | 0b000 => some (.fminD (fieldRd w) (fieldRs1 w) (fieldRs2 w))
    | 0b001 => some (.fmaxD (fieldRd w) (fieldRs1 w) (fieldRs2 w))
    | _ => none
  | 0b0100000 =>
    match fieldRs2 w with
    | 0b00001 => some (.fcvtSD (fieldRd w) (fieldRs1 w) (fieldFunct3 w))
    | _ => none
  | 0b0100001 =>
    match fieldRs2 w with
    | 0b00000 => some (.fcvtDS (fieldRd w) (fieldRs1 w) (fieldFunct3 w))
    | _ => none
  | 0b1010000 =>
    match fieldFunct3 w with
    | 0b000 => some (.fleS (fieldRd w) (fieldRs1 w) (fieldRs2 w))
    | 0b001 => some (.fltS (fieldRd w) (fieldRs1 w) (fieldRs2 w))
    | 0b010 => some (.feqS (fieldRd w) (fieldRs1 w) (fieldRs2 w))
    | _ => none
  | 0b1010001 =>
    match fieldFunct3 w with
    | 0b000 => some (.fleD (fieldRd w) (fieldRs1 w) (fieldRs2 w))
    | 0b001 => some (.fltD (fieldRd w) (fieldRs1 w) (fieldRs2 w))
    | 0b010 => some (.feqD (fieldRd w) (fieldRs1 w) (fieldRs2 w))
    | _ => none
  | 0b1100000 =>
    match fieldRs2 w with
    | 0b00000 => some (.fcvtWS (fieldRd w) (fieldRs1 w) (fieldFunct3 w))
    | 0b00001 => some (.fcvtWuS (fieldRd w) (fieldRs1 w) (fieldFunct3 w))
    | 0b00010 => some (.fcvtLS (fieldRd w) (fieldRs1 w) (fieldFunct3 w))
    | 0b00011 => some (.fcvtLuS (fieldRd w) (fieldRs1 w) (fieldFunct3 w))
    | _ => none
  | 0b1100001 =>
    match fieldRs2 w with
    | 0b00000 => some (.fcvtWD (fieldRd w) (fieldRs1 w) (fieldFunct3 w))
    | 0b00001 => some (.fcvtWuD (fieldRd w) (fieldRs1 w) (fieldFunct3 w))
    | 0b00010 => some (.fcvtLD (fieldRd w) (fieldRs1 w) (fieldFunct3 w))
    | 0b00011 => some (.fcvtLuD (fieldRd w) (fieldRs1 w) (fieldFunct3 w))
    | _ => none
  | 0b1101000 =>
    match fieldRs2 w with
    | 0b00000 => some (.fcvtSW (fieldRd w) (fieldRs1 w) (fieldFunct3 w))
    | 0b00001 => some (.fcvtSWu (fieldRd w) (fieldRs1 w) (fieldFunct3 w))
    | 0b00010 => some (.fcvtSL (fieldRd w) (fieldRs1 w) (fieldFunct3 w))
    | 0b00011 => some (.fcvtSLu (fieldRd w) (fieldRs1 w) (fieldFunct3 w))
    | _ => none
  | 0b1101001 =>
    match fieldRs2 w with
    | 0b00000 => some (.fcvtDW (fieldRd w) (fieldRs1 w) (fieldFunct3 w))
    | 0b00001 => some (.fcvtDWu (fieldRd w) (fieldRs1 w) (fieldFunct3 w))
    | 0b00010 => some (.fcvtDL (fieldRd w) (fieldRs1 w) (fieldFunct3 w))
    | 0b00011 => some (.fcvtDLu (fieldRd w) (fieldRs1 w) (fieldFunct3 w))
    | _ => none
  | 0b1110000 =>
    match fieldRs2 w, fieldFunct3 w with
    | 0b00000, 0b000 => some (.fmvXW (fieldRd w) (fieldRs1 w))
    | 0b00000, 0b001 => some (.fclassS (fieldRd w) (fieldRs1 w))
    | _, _ => none
  | 0b1110001 =>
    match fieldRs2 w, fieldFunct3 w with
    | 0b00000, 0b000 => some (.fmvXD (fieldRd w) (fieldRs1 w))
    | 0b00000, 0b001 => some (.fclassD (fieldRd w) (fieldRs1 w))
    | _, _ => none
  | 0b1111000 =>
    match fieldRs2 w, fieldFunct3 w with
    | 0b00000, 0b000 => some (.fmvWX (fieldRd w) (fieldRs1 w))
    | _, _ => none
  | 0b1111001 =>
    match fieldRs2 w, fieldFunct3 w with
    | 0b00000, 0b000 => some (.fmvDX (fieldRd w) (fieldRs1 w))
    | _, _ => none
  | _ => none

/-- A 32-bit word, by its major opcode (rule R135); `none` is unclassifiable (rule R148). -/
def decode32 (w : BitVec 32) : Option Instr :=
  match fieldOpcode w with
  | 0b0000011 => decodeLoad w
  | 0b0000111 => decodeLoadFp w
  | 0b0001111 => decodeMiscMem w
  | 0b0010011 => decodeOpImm w
  | 0b0010111 => some (.auipc (fieldRd w) (immU w))
  | 0b0011011 => decodeOpImm32 w
  | 0b0100011 => decodeStore w
  | 0b0100111 => decodeStoreFp w
  | 0b0101111 => decodeAmo w
  | 0b0110011 => decodeOp w
  | 0b0110111 => some (.lui (fieldRd w) (immU w))
  | 0b0111011 => decodeOp32 w
  | 0b1000011 => decodeFused .fmaddS .fmaddD w
  | 0b1000111 => decodeFused .fmsubS .fmsubD w
  | 0b1001011 => decodeFused .fnmsubS .fnmsubD w
  | 0b1001111 => decodeFused .fnmaddS .fnmaddD w
  | 0b1010011 => decodeOpFp w
  | 0b1100011 => decodeBranch w
  | 0b1100111 =>
    match fieldFunct3 w with
    | 0b000 => some (.jalr (fieldRd w) (fieldRs1 w) (immI w))
    | _ => none
  | 0b1101111 => some (.jal (fieldRd w) (immJ w))
  | 0b1110011 => decodeSystem w
  | _ => none

/-! ### The compressed formats (rules R141 to R146) -/

/-- CR, CI, CSS: `inst[11:7]`. -/
def cFieldRd (h : BitVec 16) : Reg := h.extractLsb' 7 5

/-- CR, CSS: `inst[6:2]`. -/
def cFieldRs2 (h : BitVec 16) : Reg := h.extractLsb' 2 5

/-- CL, CS, CA, CB: `inst[9:7]`. -/
def cFieldRs1' (h : BitVec 16) : CReg := h.extractLsb' 7 3

/-- CL, CS, CA, CIW: `inst[4:2]`. -/
def cFieldRd' (h : BitVec 16) : CReg := h.extractLsb' 2 3

/-- C.ADDI4SPN: [5:4] = inst[12:11], [9:6] = inst[10:7], [2] = inst[6], [3] = inst[5] (rule R143). -/
def immAddi4spn (h : BitVec 16) : BitVec 10 :=
  h.extractLsb' 7 4 ++ h.extractLsb' 11 2 ++ h.extractLsb' 5 1 ++ h.extractLsb' 6 1 ++ 0#2

/-- C.LW, C.SW: [5:3] = inst[12:10], [2] = inst[6], [6] = inst[5] (rule R143). -/
def immClW (h : BitVec 16) : BitVec 7 :=
  h.extractLsb' 5 1 ++ h.extractLsb' 10 3 ++ h.extractLsb' 6 1 ++ 0#2

/-- C.LD, C.SD, C.FLD, C.FSD: [5:3] = inst[12:10], [7:6] = inst[6:5] (rule R143). -/
def immClD (h : BitVec 16) : BitVec 8 := h.extractLsb' 5 2 ++ h.extractLsb' 10 3 ++ 0#3

/-- C.ADDI and its like, C.LUI's field, the shift amounts: [5] = inst[12], [4:0] = inst[6:2] (rule R143). -/
def immCi (h : BitVec 16) : BitVec 6 := h.extractLsb' 12 1 ++ h.extractLsb' 2 5

/-- C.ADDI16SP: [9] = inst[12], [4] = inst[6], [6] = inst[5], [8:7] = inst[4:3], [5] = inst[2] (rule R143). -/
def immAddi16sp (h : BitVec 16) : BitVec 10 :=
  h.extractLsb' 12 1 ++ h.extractLsb' 3 2 ++ h.extractLsb' 5 1 ++ h.extractLsb' 2 1 ++ h.extractLsb' 6 1 ++ 0#4

/-- C.J: [11] = inst[12], [4] = inst[11], [9:8] = inst[10:9], [10] = inst[8], [6] = inst[7], [7] = inst[6],
[3:1] = inst[5:3], [5] = inst[2] (rule R143). -/
def immCj (h : BitVec 16) : BitVec 12 :=
  h.extractLsb' 12 1 ++ h.extractLsb' 8 1 ++ h.extractLsb' 9 2 ++ h.extractLsb' 6 1 ++ h.extractLsb' 7 1 ++
    h.extractLsb' 2 1 ++ h.extractLsb' 11 1 ++ h.extractLsb' 3 3 ++ 0#1

/-- C.BEQZ, C.BNEZ: [8] = inst[12], [4:3] = inst[11:10], [7:6] = inst[6:5], [2:1] = inst[4:3], [5] = inst[2] (rule R143). -/
def immCb (h : BitVec 16) : BitVec 9 :=
  h.extractLsb' 12 1 ++ h.extractLsb' 5 2 ++ h.extractLsb' 2 1 ++ h.extractLsb' 10 2 ++ h.extractLsb' 3 2 ++ 0#1

/-- C.LWSP: [5] = inst[12], [4:2] = inst[6:4], [7:6] = inst[3:2] (rule R143). -/
def immLwsp (h : BitVec 16) : BitVec 8 :=
  h.extractLsb' 2 2 ++ h.extractLsb' 12 1 ++ h.extractLsb' 4 3 ++ 0#2

/-- C.LDSP, C.FLDSP: [5] = inst[12], [4:3] = inst[6:5], [8:6] = inst[4:2] (rule R143). -/
def immLdsp (h : BitVec 16) : BitVec 9 :=
  h.extractLsb' 2 3 ++ h.extractLsb' 12 1 ++ h.extractLsb' 5 2 ++ 0#3

/-- C.SWSP: [5:2] = inst[12:9], [7:6] = inst[8:7] (rule R143). -/
def immSwsp (h : BitVec 16) : BitVec 8 := h.extractLsb' 7 2 ++ h.extractLsb' 9 4 ++ 0#2

/-- C.SDSP, C.FSDSP: [5:3] = inst[12:10], [8:6] = inst[9:7] (rule R143). -/
def immSdsp (h : BitVec 16) : BitVec 9 := h.extractLsb' 7 3 ++ h.extractLsb' 10 3 ++ 0#3

/-- Quadrant 0 (rule R144). -/
def decodeQ0 (h : BitVec 16) : Option Instr :=
  match h.extractLsb' 13 3 with
  | 0b000 => if immAddi4spn h = 0#10 then none else some (.cAddi4spn (cFieldRd' h) (immAddi4spn h))
  | 0b001 => some (.cFld (cFieldRd' h) (cFieldRs1' h) (immClD h))
  | 0b010 => some (.cLw (cFieldRd' h) (cFieldRs1' h) (immClW h))
  | 0b011 => some (.cLd (cFieldRd' h) (cFieldRs1' h) (immClD h))
  | 0b100 => none
  | 0b101 => some (.cFsd (cFieldRd' h) (cFieldRs1' h) (immClD h))
  | 0b110 => some (.cSw (cFieldRd' h) (cFieldRs1' h) (immClW h))
  | 0b111 => some (.cSd (cFieldRd' h) (cFieldRs1' h) (immClD h))

/-- Quadrant 1, funct3 100: by `inst[11:10]`, then `inst[12]` and `inst[6:5]` (rule R145). -/
def decodeQ1Alu (h : BitVec 16) : Option Instr :=
  match h.extractLsb' 10 2 with
  | 0b00 => some (.cSrli (cFieldRs1' h) (immCi h))
  | 0b01 => some (.cSrai (cFieldRs1' h) (immCi h))
  | 0b10 => some (.cAndi (cFieldRs1' h) (immCi h))
  | 0b11 =>
    match h.extractLsb' 12 1 with
    | 0b0 =>
      match h.extractLsb' 5 2 with
      | 0b00 => some (.cSub (cFieldRs1' h) (cFieldRd' h))
      | 0b01 => some (.cXor (cFieldRs1' h) (cFieldRd' h))
      | 0b10 => some (.cOr (cFieldRs1' h) (cFieldRd' h))
      | 0b11 => some (.cAnd (cFieldRs1' h) (cFieldRd' h))
    | 0b1 =>
      match h.extractLsb' 5 2 with
      | 0b00 => some (.cSubw (cFieldRs1' h) (cFieldRd' h))
      | 0b01 => some (.cAddw (cFieldRs1' h) (cFieldRd' h))
      | _ => none

/-- Quadrant 1 (rule R145). -/
def decodeQ1 (h : BitVec 16) : Option Instr :=
  match h.extractLsb' 13 3 with
  | 0b000 => if cFieldRd h = 0#5 then some (.cNop (immCi h)) else some (.cAddi (cFieldRd h) (immCi h))
  | 0b001 => if cFieldRd h = 0#5 then none else some (.cAddiw (cFieldRd h) (immCi h))
  | 0b010 => some (.cLi (cFieldRd h) (immCi h))
  | 0b011 =>
    if immCi h = 0#6 then none
    else if cFieldRd h = 2#5 then some (.cAddi16sp (immAddi16sp h))
    else some (.cLui (cFieldRd h) (immCi h))
  | 0b100 => decodeQ1Alu h
  | 0b101 => some (.cJ (immCj h))
  | 0b110 => some (.cBeqz (cFieldRs1' h) (immCb h))
  | 0b111 => some (.cBnez (cFieldRs1' h) (immCb h))

/-- Quadrant 2, funct3 100: by `inst[12]`, rs1/rd and rs2 (rule R146). -/
def decodeQ2Cr (h : BitVec 16) : Option Instr :=
  match h.extractLsb' 12 1 with
  | 0b0 =>
    if cFieldRs2 h = 0#5 then
      if cFieldRd h = 0#5 then none else some (.cJr (cFieldRd h))
    else some (.cMv (cFieldRd h) (cFieldRs2 h))
  | 0b1 =>
    if cFieldRs2 h = 0#5 then
      if cFieldRd h = 0#5 then some .cEbreak else some (.cJalr (cFieldRd h))
    else some (.cAdd (cFieldRd h) (cFieldRs2 h))

/-- Quadrant 2 (rule R146). -/
def decodeQ2 (h : BitVec 16) : Option Instr :=
  match h.extractLsb' 13 3 with
  | 0b000 => some (.cSlli (cFieldRd h) (immCi h))
  | 0b001 => some (.cFldsp (cFieldRd h) (immLdsp h))
  | 0b010 => if cFieldRd h = 0#5 then none else some (.cLwsp (cFieldRd h) (immLwsp h))
  | 0b011 => if cFieldRd h = 0#5 then none else some (.cLdsp (cFieldRd h) (immLdsp h))
  | 0b100 => decodeQ2Cr h
  | 0b101 => some (.cFsdsp (cFieldRs2 h) (immSdsp h))
  | 0b110 => some (.cSwsp (cFieldRs2 h) (immSwsp h))
  | 0b111 => some (.cSdsp (cFieldRs2 h) (immSdsp h))

/-- A 16-bit parcel, by its quadrant; quadrant 11 announces a 32-bit instruction (rule R120). -/
def decode16 (h : BitVec 16) : Option Instr :=
  match h.extractLsb' 0 2 with
  | 0b00 => decodeQ0 h
  | 0b01 => decodeQ1 h
  | 0b10 => decodeQ2 h
  | 0b11 => none

/-! ### The decoder's contract (rules R120, R121, R147, R148) -/

/-- Why a word is no instruction of the table. -/
inductive Reject where
  /-- Fewer bytes than the instruction announced by its first parcel has. -/
  | truncated
  /-- The word matches no row of the table (rule R148). -/
  | unclassifiable
  /-- The word is of the vector form (rule R147): it goes to the vector-unit port. -/
  | vectorForm
  deriving DecidableEq, Repr

/-- The first parcel announces a 16-bit instruction: `inst[1:0] != 11` (rule R120). -/
def isCompressed (w : BitVec 32) : Bool := w.extractLsb' 0 2 != 0b11#2

/-- The vector form: OP-V, or LOAD-FP / STORE-FP with funct3 000, 101, 110 or 111 (rule R147). -/
def isVectorForm (w : BitVec 32) : Bool :=
  match fieldOpcode w with
  | 0b1010111 => true
  | 0b0000111 | 0b0100111 =>
    match fieldFunct3 w with
    | 0b000 | 0b101 | 0b110 | 0b111 => true
    | _ => false
  | _ => false

/-- The instruction in the fetched bits `w` (rule R95 of spec/20_memory.md: a compressed one zero-extended). The class of a
word is a function of its bits alone (rule R120). -/
def decodeInst (w : BitVec 32) : Except Reject Instr :=
  if isCompressed w then
    match decode16 (w.extractLsb' 0 16) with
    | some i => .ok i
    | none => .error .unclassifiable
  else
    match decode32 w with
    | some i => .ok i
    | none => if isVectorForm w then .error .vectorForm else .error .unclassifiable

/-- The decoder on bytes, lowest address first (parcels and their bytes little-endian: rule R85 of spec/20_memory.md); it
answers the instruction and the bytes after it. -/
def decode : List Byte → Except Reject (Instr × List Byte)
  | b0 :: b1 :: rest =>
    if isCompressed ((b1 ++ b0).setWidth 32) then
      match decodeInst ((b1 ++ b0).setWidth 32) with
      | .ok i => .ok (i, rest)
      | .error e => .error e
    else
      match rest with
      | b2 :: b3 :: rest' =>
        match decodeInst (b3 ++ b2 ++ b1 ++ b0) with
        | .ok i => .ok (i, rest')
        | .error e => .error e
      | _ => .error .truncated
  | _ => .error .truncated

/-- The four bytes in which an instruction with the table's bits `w` is stored, lowest address first; bits from `nbits` up
are 0. -/
def tableWordBytes (nbits w : Nat) : List Byte :=
  let v := BitVec.ofNat 32 (w % 2 ^ nbits)
  [v.extractLsb' 0 8, v.extractLsb' 8 8, v.extractLsb' 16 8, v.extractLsb' 24 8]

/-- What the decoder reads from an instruction whose bits, numbered as spec/opcode_table.json numbers them, are `w`. -/
def decodeTableWord (nbits w : Nat) : Option Instr :=
  match decode (tableWordBytes nbits w) with
  | .ok (i, _) => some i
  | .error _ => none

/-! ### The encoder -/

/-- R (rule R123). -/
def encR (funct7 : BitVec 7) (rs2 rs1 : Reg) (funct3 : BitVec 3) (rd : Reg) (opcode : BitVec 7) : BitVec 32 :=
  funct7 ++ rs2 ++ rs1 ++ funct3 ++ rd ++ opcode

/-- I (rule R123). -/
def encI (imm : BitVec 12) (rs1 : Reg) (funct3 : BitVec 3) (rd : Reg) (opcode : BitVec 7) : BitVec 32 :=
  imm ++ rs1 ++ funct3 ++ rd ++ opcode

/-- S (rule R123). -/
def encS (imm : BitVec 12) (rs2 rs1 : Reg) (funct3 : BitVec 3) (opcode : BitVec 7) : BitVec 32 :=
  imm.extractLsb' 5 7 ++ rs2 ++ rs1 ++ funct3 ++ imm.extractLsb' 0 5 ++ opcode

/-- B (rule R123). -/
def encB (imm : BitVec 13) (rs2 rs1 : Reg) (funct3 : BitVec 3) (opcode : BitVec 7) : BitVec 32 :=
  imm.extractLsb' 12 1 ++ imm.extractLsb' 5 6 ++ rs2 ++ rs1 ++ funct3 ++ imm.extractLsb' 1 4 ++ imm.extractLsb' 11 1 ++ opcode

/-- U (rule R123). -/
def encU (imm20 : BitVec 20) (rd : Reg) (opcode : BitVec 7) : BitVec 32 := imm20 ++ rd ++ opcode

/-- J (rule R123). -/
def encJ (imm : BitVec 21) (rd : Reg) (opcode : BitVec 7) : BitVec 32 :=
  imm.extractLsb' 20 1 ++ imm.extractLsb' 1 10 ++ imm.extractLsb' 11 1 ++ imm.extractLsb' 12 8 ++ rd ++ opcode

/-- R4 (rule R123). -/
def encR4 (rs3 : Reg) (fmt : BitVec 2) (rs2 rs1 : Reg) (rm : BitVec 3) (rd : Reg) (opcode : BitVec 7) : BitVec 32 :=
  rs3 ++ fmt ++ rs2 ++ rs1 ++ rm ++ rd ++ opcode

/-- Shift immediates with a 6-bit amount (rule R124 a). -/
def encShift6 (funct6 shamt : BitVec 6) (rs1 : Reg) (funct3 : BitVec 3) (rd : Reg) (opcode : BitVec 7) : BitVec 32 :=
  funct6 ++ shamt ++ rs1 ++ funct3 ++ rd ++ opcode

/-- Atomics (rules R124 b, R137). -/
def encAmo (funct5 : BitVec 5) (aq rl : BitVec 1) (rs2 rs1 : Reg) (funct3 : BitVec 3) (rd : Reg) : BitVec 32 :=
  funct5 ++ aq ++ rl ++ rs2 ++ rs1 ++ funct3 ++ rd ++ 0b0101111#7

/-- CR (rules R142, R146). -/
def encCr (funct4 : BitVec 4) (rd rs2 : Reg) : BitVec 16 := funct4 ++ rd ++ rs2 ++ 0b10#2

/-- CI with the plain 6-bit immediate (rules R142, R143). -/
def encCi (funct3 : BitVec 3) (imm : BitVec 6) (rd : Reg) (op : BitVec 2) : BitVec 16 :=
  funct3 ++ imm.extractLsb' 5 1 ++ rd ++ imm.extractLsb' 0 5 ++ op

/-- C.ADDI16SP (rules R142, R143). -/
def encCi16sp (nzimm : BitVec 10) : BitVec 16 :=
  0b011#3 ++ nzimm.extractLsb' 9 1 ++ 2#5 ++ nzimm.extractLsb' 4 1 ++ nzimm.extractLsb' 6 1 ++ nzimm.extractLsb' 7 2 ++
    nzimm.extractLsb' 5 1 ++ 0b01#2

/-- C.LWSP (rules R142, R143). -/
def encCiWsp (funct3 : BitVec 3) (uimm : BitVec 8) (rd : Reg) : BitVec 16 :=
  funct3 ++ uimm.extractLsb' 5 1 ++ rd ++ uimm.extractLsb' 2 3 ++ uimm.extractLsb' 6 2 ++ 0b10#2

/-- C.LDSP, C.FLDSP (rules R142, R143). -/
def encCiDsp (funct3 : BitVec 3) (uimm : BitVec 9) (rd : Reg) : BitVec 16 :=
  funct3 ++ uimm.extractLsb' 5 1 ++ rd ++ uimm.extractLsb' 3 2 ++ uimm.extractLsb' 6 3 ++ 0b10#2

/-- C.SWSP (rules R142, R143). -/
def encCssW (funct3 : BitVec 3) (uimm : BitVec 8) (rs2 : Reg) : BitVec 16 :=
  funct3 ++ uimm.extractLsb' 2 4 ++ uimm.extractLsb' 6 2 ++ rs2 ++ 0b10#2

/-- C.SDSP, C.FSDSP (rules R142, R143). -/
def encCssD (funct3 : BitVec 3) (uimm : BitVec 9) (rs2 : Reg) : BitVec 16 :=
  funct3 ++ uimm.extractLsb' 3 3 ++ uimm.extractLsb' 6 3 ++ rs2 ++ 0b10#2

/-- CIW, C.ADDI4SPN (rules R142, R143). -/
def encCiw (nzuimm : BitVec 10) (rd : CReg) : BitVec 16 :=
  0b000#3 ++ nzuimm.extractLsb' 4 2 ++ nzuimm.extractLsb' 6 4 ++ nzuimm.extractLsb' 2 1 ++ nzuimm.extractLsb' 3 1 ++ rd ++ 0b00#2

/-- CL and CS with a word offset (rules R142, R143). -/
def encClW (funct3 : BitVec 3) (uimm : BitVec 7) (rs1 r : CReg) : BitVec 16 :=
  funct3 ++ uimm.extractLsb' 3 3 ++ rs1 ++ uimm.extractLsb' 2 1 ++ uimm.extractLsb' 6 1 ++ r ++ 0b00#2

/-- CL and CS with a doubleword offset (rules R142, R143). -/
def encClD (funct3 : BitVec 3) (uimm : BitVec 8) (rs1 r : CReg) : BitVec 16 :=
  funct3 ++ uimm.extractLsb' 3 3 ++ rs1 ++ uimm.extractLsb' 6 2 ++ r ++ 0b00#2

/-- CA (rules R142, R145). -/
def encCa (funct6 : BitVec 6) (funct2 : BitVec 2) (rs2 rd : CReg) : BitVec 16 := funct6 ++ rd ++ funct2 ++ rs2 ++ 0b01#2

/-- C.SRLI, C.SRAI, C.ANDI (rules R142, R145). -/
def encCbImm (funct2 : BitVec 2) (imm : BitVec 6) (rd : CReg) : BitVec 16 :=
  0b100#3 ++ imm.extractLsb' 5 1 ++ funct2 ++ rd ++ imm.extractLsb' 0 5 ++ 0b01#2

/-- CB branches (rules R142, R143). -/
def encCb (funct3 : BitVec 3) (off : BitVec 9) (rs1 : CReg) : BitVec 16 :=
  funct3 ++ off.extractLsb' 8 1 ++ off.extractLsb' 3 2 ++ rs1 ++ off.extractLsb' 6 2 ++ off.extractLsb' 1 2 ++ off.extractLsb' 5 1 ++ 0b01#2

/-- CJ (rules R142, R143). -/
def encCj (off : BitVec 12) : BitVec 16 :=
  0b101#3 ++ off.extractLsb' 11 1 ++ off.extractLsb' 4 1 ++ off.extractLsb' 8 2 ++ off.extractLsb' 10 1 ++ off.extractLsb' 6 1 ++
    off.extractLsb' 7 1 ++ off.extractLsb' 1 3 ++ off.extractLsb' 5 1 ++ 0b01#2

/-- The word of a well-formed instruction (a compressed one in the low 16 bits, the rest 0). -/
def encode : Instr → BitVec 32
  | .lui rd imm20 => encU imm20 rd 0b0110111#7
  | .auipc rd imm20 => encU imm20 rd 0b0010111#7
  | .addi rd rs1 imm => encI imm rs1 0b000#3 rd 0b0010011#7
  | .slti rd rs1 imm => encI imm rs1 0b010#3 rd 0b0010011#7
  | .sltiu rd rs1 imm => encI imm rs1 0b011#3 rd 0b0010011#7
  | .xori rd rs1 imm => encI imm rs1 0b100#3 rd 0b0010011#7
  | .ori rd rs1 imm => encI imm rs1 0b110#3 rd 0b0010011#7
  | .andi rd rs1 imm => encI imm rs1 0b111#3 rd 0b0010011#7
  | .slli rd rs1 shamt => encShift6 0b000000#6 shamt rs1 0b001#3 rd 0b0010011#7
  | .srli rd rs1 shamt => encShift6 0b000000#6 shamt rs1 0b101#3 rd 0b0010011#7
  | .srai rd rs1 shamt => encShift6 0b010000#6 shamt rs1 0b101#3 rd 0b0010011#7
  | .add rd rs1 rs2 => encR 0b0000000#7 rs2 rs1 0b000#3 rd 0b0110011#7
  | .sub rd rs1 rs2 => encR 0b0100000#7 rs2 rs1 0b000#3 rd 0b0110011#7
  | .sll rd rs1 rs2 => encR 0b0000000#7 rs2 rs1 0b001#3 rd 0b0110011#7
  | .slt rd rs1 rs2 => encR 0b0000000#7 rs2 rs1 0b010#3 rd 0b0110011#7
  | .sltu rd rs1 rs2 => encR 0b0000000#7 rs2 rs1 0b011#3 rd 0b0110011#7
  | .xor rd rs1 rs2 => encR 0b0000000#7 rs2 rs1 0b100#3 rd 0b0110011#7
  | .srl rd rs1 rs2 => encR 0b0000000#7 rs2 rs1 0b101#3 rd 0b0110011#7
  | .sra rd rs1 rs2 => encR 0b0100000#7 rs2 rs1 0b101#3 rd 0b0110011#7
  | .or rd rs1 rs2 => encR 0b0000000#7 rs2 rs1 0b110#3 rd 0b0110011#7
  | .and rd rs1 rs2 => encR 0b0000000#7 rs2 rs1 0b111#3 rd 0b0110011#7
  | .addiw rd rs1 imm => encI imm rs1 0b000#3 rd 0b0011011#7
  | .slliw rd rs1 shamt => encR 0b0000000#7 shamt rs1 0b001#3 rd 0b0011011#7
  | .srliw rd rs1 shamt => encR 0b0000000#7 shamt rs1 0b101#3 rd 0b0011011#7
  | .sraiw rd rs1 shamt => encR 0b0100000#7 shamt rs1 0b101#3 rd 0b0011011#7
  | .addw rd rs1 rs2 => encR 0b0000000#7 rs2 rs1 0b000#3 rd 0b0111011#7
  | .subw rd rs1 rs2 => encR 0b0100000#7 rs2 rs1 0b000#3 rd 0b0111011#7
  | .sllw rd rs1 rs2 => encR 0b0000000#7 rs2 rs1 0b001#3 rd 0b0111011#7
  | .srlw rd rs1 rs2 => encR 0b0000000#7 rs2 rs1 0b101#3 rd 0b0111011#7
  | .sraw rd rs1 rs2 => encR 0b0100000#7 rs2 rs1 0b101#3 rd 0b0111011#7
  | .mul rd rs1 rs2 => encR 0b0000001#7 rs2 rs1 0b000#3 rd 0b0110011#7
  | .mulh rd rs1 rs2 => encR 0b0000001#7 rs2 rs1 0b001#3 rd 0b0110011#7
  | .mulhsu rd rs1 rs2 => encR 0b0000001#7 rs2 rs1 0b010#3 rd 0b0110011#7
  | .mulhu rd rs1 rs2 => encR 0b0000001#7 rs2 rs1 0b011#3 rd 0b0110011#7
  | .div rd rs1 rs2 => encR 0b0000001#7 rs2 rs1 0b100#3 rd 0b0110011#7
  | .divu rd rs1 rs2 => encR 0b0000001#7 rs2 rs1 0b101#3 rd 0b0110011#7
  | .rem rd rs1 rs2 => encR 0b0000001#7 rs2 rs1 0b110#3 rd 0b0110011#7
  | .remu rd rs1 rs2 => encR 0b0000001#7 rs2 rs1 0b111#3 rd 0b0110011#7
  | .mulw rd rs1 rs2 => encR 0b0000001#7 rs2 rs1 0b000#3 rd 0b0111011#7
  | .divw rd rs1 rs2 => encR 0b0000001#7 rs2 rs1 0b100#3 rd 0b0111011#7
  | .divuw rd rs1 rs2 => encR 0b0000001#7 rs2 rs1 0b101#3 rd 0b0111011#7
  | .remw rd rs1 rs2 => encR 0b0000001#7 rs2 rs1 0b110#3 rd 0b0111011#7
  | .remuw rd rs1 rs2 => encR 0b0000001#7 rs2 rs1 0b111#3 rd 0b0111011#7
  | .jal rd offset => encJ offset rd 0b1101111#7
  | .jalr rd rs1 imm => encI imm rs1 0b000#3 rd 0b1100111#7
  | .beq rs1 rs2 offset => encB offset rs2 rs1 0b000#3 0b1100011#7
  | .bne rs1 rs2 offset => encB offset rs2 rs1 0b001#3 0b1100011#7
  | .blt rs1 rs2 offset => encB offset rs2 rs1 0b100#3 0b1100011#7
  | .bge rs1 rs2 offset => encB offset rs2 rs1 0b101#3 0b1100011#7
  | .bltu rs1 rs2 offset => encB offset rs2 rs1 0b110#3 0b1100011#7
  | .bgeu rs1 rs2 offset => encB offset rs2 rs1 0b111#3 0b1100011#7
  | .lb rd rs1 imm => encI imm rs1 0b000#3 rd 0b0000011#7
  | .lh rd rs1 imm => encI imm rs1 0b001#3 rd 0b0000011#7
  | .lw rd rs1 imm => encI imm rs1 0b010#3 rd 0b0000011#7
  | .ld rd rs1 imm => encI imm rs1 0b011#3 rd 0b0000011#7
  | .lbu rd rs1 imm => encI imm rs1 0b100#3 rd 0b0000011#7
  | .lhu rd rs1 imm => encI imm rs1 0b101#3 rd 0b0000011#7
  | .lwu rd rs1 imm => encI imm rs1 0b110#3 rd 0b0000011#7
  | .sb rs2 rs1 imm => encS imm rs2 rs1 0b000#3 0b0100011#7
  | .sh rs2 rs1 imm => encS imm rs2 rs1 0b001#3 0b0100011#7
  | .sw rs2 rs1 imm => encS imm rs2 rs1 0b010#3 0b0100011#7
  | .sd rs2 rs1 imm => encS imm rs2 rs1 0b011#3 0b0100011#7
  | .fence fm pred succ rs1 rd => encI (fm ++ pred ++ succ) rs1 0b000#3 rd 0b0001111#7
  | .fenceI imm rs1 rd => encI imm rs1 0b001#3 rd 0b0001111#7
  | .ecall => encI 0b000000000000#12 0b00000#5 0b000#3 0b00000#5 0b1110011#7
  | .ebreak => encI 0b000000000001#12 0b00000#5 0b000#3 0b00000#5 0b1110011#7
  | .csrrw rd csr rs1 => encI csr rs1 0b001#3 rd 0b1110011#7
  | .csrrs rd csr rs1 => encI csr rs1 0b010#3 rd 0b1110011#7
  | .csrrc rd csr rs1 => encI csr rs1 0b011#3 rd 0b1110011#7
  | .csrrwi rd csr uimm => encI csr uimm 0b101#3 rd 0b1110011#7
  | .csrrsi rd csr uimm => encI csr uimm 0b110#3 rd 0b1110011#7
  | .csrrci rd csr uimm => encI csr uimm 0b111#3 rd 0b1110011#7
  | .lrW rd rs1 aq rl => encAmo 0b00010#5 aq rl 0b00000#5 rs1 0b010#3 rd
  | .lrD rd rs1 aq rl => encAmo 0b00010#5 aq rl 0b00000#5 rs1 0b011#3 rd
  | .scW rd rs2 rs1 aq rl => encAmo 0b00011#5 aq rl rs2 rs1 0b010#3 rd
  | .scD rd rs2 rs1 aq rl => encAmo 0b00011#5 aq rl rs2 rs1 0b011#3 rd
  | .amoswapW rd rs2 rs1 aq rl => encAmo 0b00001#5 aq rl rs2 rs1 0b010#3 rd
  | .amoaddW rd rs2 rs1 aq rl => encAmo 0b00000#5 aq rl rs2 rs1 0b010#3 rd
  | .amoxorW rd rs2 rs1 aq rl => encAmo 0b00100#5 aq rl rs2 rs1 0b010#3 rd
  | .amoandW rd rs2 rs1 aq rl => encAmo 0b01100#5 aq rl rs2 rs1 0b010#3 rd
  | .amoorW rd rs2 rs1 aq rl => encAmo 0b01000#5 aq rl rs2 rs1 0b010#3 rd
  | .amominW rd rs2 rs1 aq rl => encAmo 0b10000#5 aq rl rs2 rs1 0b010#3 rd
  | .amomaxW rd rs2 rs1 aq rl => encAmo 0b10100#5 aq rl rs2 rs1 0b010#3 rd
  | .amominuW rd rs2 rs1 aq rl => encAmo 0b11000#5 aq rl rs2 rs1 0b010#3 rd
  | .amomaxuW rd rs2 rs1 aq rl => encAmo 0b11100#5 aq rl rs2 rs1 0b010#3 rd
  | .amoswapD rd rs2 rs1 aq rl => encAmo 0b00001#5 aq rl rs2 rs1 0b011#3 rd
  | .amoaddD rd rs2 rs1 aq rl => encAmo 0b00000#5 aq rl rs2 rs1 0b011#3 rd
  | .amoxorD rd rs2 rs1 aq rl => encAmo 0b00100#5 aq rl rs2 rs1 0b011#3 rd
  | .amoandD rd rs2 rs1 aq rl => encAmo 0b01100#5 aq rl rs2 rs1 0b011#3 rd
  | .amoorD rd rs2 rs1 aq rl => encAmo 0b01000#5 aq rl rs2 rs1 0b011#3 rd
  | .amominD rd rs2 rs1 aq rl => encAmo 0b10000#5 aq rl rs2 rs1 0b011#3 rd
  | .amomaxD rd rs2 rs1 aq rl => encAmo 0b10100#5 aq rl rs2 rs1 0b011#3 rd
  | .amominuD rd rs2 rs1 aq rl => encAmo 0b11000#5 aq rl rs2 rs1 0b011#3 rd
  | .amomaxuD rd rs2 rs1 aq rl => encAmo 0b11100#5 aq rl rs2 rs1 0b011#3 rd
  | .flw rd rs1 imm => encI imm rs1 0b010#3 rd 0b0000111#7
  | .fsw rs2 rs1 imm => encS imm rs2 rs1 0b010#3 0b0100111#7
  | .fmaddS rd rs1 rs2 rs3 rm => encR4 rs3 0b00#2 rs2 rs1 rm rd 0b1000011#7
  | .fmsubS rd rs1 rs2 rs3 rm => encR4 rs3 0b00#2 rs2 rs1 rm rd 0b1000111#7
  | .fnmsubS rd rs1 rs2 rs3 rm => encR4 rs3 0b00#2 rs2 rs1 rm rd 0b1001011#7
  | .fnmaddS rd rs1 rs2 rs3 rm => encR4 rs3 0b00#2 rs2 rs1 rm rd 0b1001111#7
  | .faddS rd rs1 rs2 rm => encR 0b0000000#7 rs2 rs1 rm rd 0b1010011#7
  | .fsubS rd rs1 rs2 rm => encR 0b0000100#7 rs2 rs1 rm rd 0b1010011#7
  | .fmulS rd rs1 rs2 rm => encR 0b0001000#7 rs2 rs1 rm rd 0b1010011#7
  | .fdivS rd rs1 rs2 rm => encR 0b0001100#7 rs2 rs1 rm rd 0b1010011#7
  | .fsqrtS rd rs1 rm => encR 0b0101100#7 0b00000#5 rs1 rm rd 0b1010011#7
  | .fsgnjS rd rs1 rs2 => encR 0b0010000#7 rs2 rs1 0b000#3 rd 0b1010011#7
  | .fsgnjnS rd rs1 rs2 => encR 0b0010000#7 rs2 rs1 0b001#3 rd 0b1010011#7
  | .fsgnjxS rd rs1 rs2 => encR 0b0010000#7 rs2 rs1 0b010#3 rd 0b1010011#7
  | .fminS rd rs1 rs2 => encR 0b0010100#7 rs2 rs1 0b000#3 rd 0b1010011#7
  | .fmaxS rd rs1 rs2 => encR 0b0010100#7 rs2 rs1 0b001#3 rd 0b1010011#7
  | .fleS rd rs1 rs2 => encR 0b1010000#7 rs2 rs1 0b000#3 rd 0b1010011#7
  | .fltS rd rs1 rs2 => encR 0b1010000#7 rs2 rs1 0b001#3 rd 0b1010011#7
  | .feqS rd rs1 rs2 => encR 0b1010000#7 rs2 rs1 0b010#3 rd 0b1010011#7
  | .fcvtWS rd rs1 rm => encR 0b1100000#7 0b00000#5 rs1 rm rd 0b1010011#7
  | .fcvtSW rd rs1 rm => encR 0b1101000#7 0b00000#5 rs1 rm rd 0b1010011#7
  | .fcvtWuS rd rs1 rm => encR 0b1100000#7 0b00001#5 rs1 rm rd 0b1010011#7
  | .fcvtSWu rd rs1 rm => encR 0b1101000#7 0b00001#5 rs1 rm rd 0b1010011#7
  | .fcvtLS rd rs1 rm => encR 0b1100000#7 0b00010#5 rs1 rm rd 0b1010011#7
  | .fcvtSL rd rs1 rm => encR 0b1101000#7 0b00010#5 rs1 rm rd 0b1010011#7
  | .fcvtLuS rd rs1 rm => encR 0b1100000#7 0b00011#5 rs1 rm rd 0b1010011#7
  | .fcvtSLu rd rs1 rm => encR 0b1101000#7 0b00011#5 rs1 rm rd 0b1010011#7
  | .fmvXW rd rs1 => encR 0b1110000#7 0b00000#5 rs1 0b000#3 rd 0b1010011#7
  | .fclassS rd rs1 => encR 0b1110000#7 0b00000#5 rs1 0b001#3 rd 0b1010011#7
  | .fmvWX rd rs1 => encR 0b1111000#7 0b00000#5 rs1 0b000#3 rd 0b1010011#7
  | .fld rd rs1 imm => encI imm rs1 0b011#3 rd 0b0000111#7
  | .fsd rs2 rs1 imm => encS imm rs2 rs1 0b011#3 0b0100111#7
  | .fmaddD rd rs1 rs2 rs3 rm => encR4 rs3 0b01#2 rs2 rs1 rm rd 0b1000011#7
  | .fmsubD rd rs1 rs2 rs3 rm => encR4 rs3 0b01#2 rs2 rs1 rm rd 0b1000111#7
  | .fnmsubD rd rs1 rs2 rs3 rm => encR4 rs3 0b01#2 rs2 rs1 rm rd 0b1001011#7
  | .fnmaddD rd rs1 rs2 rs3 rm => encR4 rs3 0b01#2 rs2 rs1 rm rd 0b1001111#7
  | .faddD rd rs1 rs2 rm => encR 0b0000001#7 rs2 rs1 rm rd 0b1010011#7
  | .fsubD rd rs1 rs2 rm => encR 0b0000101#7 rs2 rs1 rm rd 0b1010011#7
  | .fmulD rd rs1 rs2 rm => encR 0b0001001#7 rs2 rs1 rm rd 0b1010011#7
  | .fdivD rd rs1 rs2 rm => encR 0b0001101#7 rs2 rs1 rm rd 0b1010011#7
  | .fsqrtD rd rs1 rm => encR 0b0101101#7 0b00000#5 rs1 rm rd 0b1010011#7
  | .fsgnjD rd rs1 rs2 => encR 0b0010001#7 rs2 rs1 0b000#3 rd 0b1010011#7
  | .fsgnjnD rd rs1 rs2 => encR 0b0010001#7 rs2 rs1 0b001#3 rd 0b1010011#7
  | .fsgnjxD rd rs1 rs2 => encR 0b0010001#7 rs2 rs1 0b010#3 rd 0b1010011#7
  | .fminD rd rs1 rs2 => encR 0b0010101#7 rs2 rs1 0b000#3 rd 0b1010011#7
  | .fmaxD rd rs1 rs2 => encR 0b0010101#7 rs2 rs1 0b001#3 rd 0b1010011#7
  | .fleD rd rs1 rs2 => encR 0b1010001#7 rs2 rs1 0b000#3 rd 0b1010011#7
  | .fltD rd rs1 rs2 => encR 0b1010001#7 rs2 rs1 0b001#3 rd 0b1010011#7
  | .feqD rd rs1 rs2 => encR 0b1010001#7 rs2 rs1 0b010#3 rd 0b1010011#7
  | .fcvtWD rd rs1 rm => encR 0b1100001#7 0b00000#5 rs1 rm rd 0b1010011#7
  | .fcvtDW rd rs1 rm => encR 0b1101001#7 0b00000#5 rs1 rm rd 0b1010011#7
  | .fcvtWuD rd rs1 rm => encR 0b1100001#7 0b00001#5 rs1 rm rd 0b1010011#7
  | .fcvtDWu rd rs1 rm => encR 0b1101001#7 0b00001#5 rs1 rm rd 0b1010011#7
  | .fcvtLD rd rs1 rm => encR 0b1100001#7 0b00010#5 rs1 rm rd 0b1010011#7
  | .fcvtDL rd rs1 rm => encR 0b1101001#7 0b00010#5 rs1 rm rd 0b1010011#7
  | .fcvtLuD rd rs1 rm => encR 0b1100001#7 0b00011#5 rs1 rm rd 0b1010011#7
  | .fcvtDLu rd rs1 rm => encR 0b1101001#7 0b00011#5 rs1 rm rd 0b1010011#7
  | .fmvXD rd rs1 => encR 0b1110001#7 0b00000#5 rs1 0b000#3 rd 0b1010011#7
  | .fclassD rd rs1 => encR 0b1110001#7 0b00000#5 rs1 0b001#3 rd 0b1010011#7
  | .fmvDX rd rs1 => encR 0b1111001#7 0b00000#5 rs1 0b000#3 rd 0b1010011#7
  | .fcvtSD rd rs1 rm => encR 0b0100000#7 0b00001#5 rs1 rm rd 0b1010011#7
  | .fcvtDS rd rs1 rm => encR 0b0100001#7 0b00000#5 rs1 rm rd 0b1010011#7
  | .cAddi4spn rd nzuimm => (encCiw nzuimm rd).setWidth 32
  | .cFld rd rs1 uimm => (encClD 0b001#3 uimm rs1 rd).setWidth 32
  | .cLw rd rs1 uimm => (encClW 0b010#3 uimm rs1 rd).setWidth 32
  | .cLd rd rs1 uimm => (encClD 0b011#3 uimm rs1 rd).setWidth 32
  | .cFsd rs2 rs1 uimm => (encClD 0b101#3 uimm rs1 rs2).setWidth 32
  | .cSw rs2 rs1 uimm => (encClW 0b110#3 uimm rs1 rs2).setWidth 32
  | .cSd rs2 rs1 uimm => (encClD 0b111#3 uimm rs1 rs2).setWidth 32
  | .cNop imm => (encCi 0b000#3 imm 0b00000#5 0b01#2).setWidth 32
  | .cAddi rd imm => (encCi 0b000#3 imm rd 0b01#2).setWidth 32
  | .cAddiw rd imm => (encCi 0b001#3 imm rd 0b01#2).setWidth 32
  | .cLi rd imm => (encCi 0b010#3 imm rd 0b01#2).setWidth 32
  | .cAddi16sp nzimm => (encCi16sp nzimm).setWidth 32
  | .cLui rd nzimm => (encCi 0b011#3 nzimm rd 0b01#2).setWidth 32
  | .cSrli rd shamt => (encCbImm 0b00#2 shamt rd).setWidth 32
  | .cSrai rd shamt => (encCbImm 0b01#2 shamt rd).setWidth 32
  | .cAndi rd imm => (encCbImm 0b10#2 imm rd).setWidth 32
  | .cSub rd rs2 => (encCa 0b100011#6 0b00#2 rs2 rd).setWidth 32
  | .cXor rd rs2 => (encCa 0b100011#6 0b01#2 rs2 rd).setWidth 32
  | .cOr rd rs2 => (encCa 0b100011#6 0b10#2 rs2 rd).setWidth 32
  | .cAnd rd rs2 => (encCa 0b100011#6 0b11#2 rs2 rd).setWidth 32
  | .cSubw rd rs2 => (encCa 0b100111#6 0b00#2 rs2 rd).setWidth 32
  | .cAddw rd rs2 => (encCa 0b100111#6 0b01#2 rs2 rd).setWidth 32
  | .cJ offset => (encCj offset).setWidth 32
  | .cBeqz rs1 offset => (encCb 0b110#3 offset rs1).setWidth 32
  | .cBnez rs1 offset => (encCb 0b111#3 offset rs1).setWidth 32
  | .cSlli rd shamt => (encCi 0b000#3 shamt rd 0b10#2).setWidth 32
  | .cFldsp rd uimm => (encCiDsp 0b001#3 uimm rd).setWidth 32
  | .cLwsp rd uimm => (encCiWsp 0b010#3 uimm rd).setWidth 32
  | .cLdsp rd uimm => (encCiDsp 0b011#3 uimm rd).setWidth 32
  | .cJr rs1 => (encCr 0b1000#4 rs1 0b00000#5).setWidth 32
  | .cMv rd rs2 => (encCr 0b1000#4 rd rs2).setWidth 32
  | .cEbreak => (encCr 0b1001#4 0b00000#5 0b00000#5).setWidth 32
  | .cJalr rs1 => (encCr 0b1001#4 rs1 0b00000#5).setWidth 32
  | .cAdd rd rs2 => (encCr 0b1001#4 rd rs2).setWidth 32
  | .cFsdsp rs2 uimm => (encCssD 0b101#3 uimm rs2).setWidth 32
  | .cSwsp rs2 uimm => (encCssW 0b110#3 uimm rs2).setWidth 32
  | .cSdsp rs2 uimm => (encCssD 0b111#3 uimm rs2).setWidth 32

/-- The instruction's size in bytes (rule R120). -/
def Instr.len : Instr → Nat
  | .lui _ _ => 4
  | .auipc _ _ => 4
  | .addi _ _ _ => 4
  | .slti _ _ _ => 4
  | .sltiu _ _ _ => 4
  | .xori _ _ _ => 4
  | .ori _ _ _ => 4
  | .andi _ _ _ => 4
  | .slli _ _ _ => 4
  | .srli _ _ _ => 4
  | .srai _ _ _ => 4
  | .add _ _ _ => 4
  | .sub _ _ _ => 4
  | .sll _ _ _ => 4
  | .slt _ _ _ => 4
  | .sltu _ _ _ => 4
  | .xor _ _ _ => 4
  | .srl _ _ _ => 4
  | .sra _ _ _ => 4
  | .or _ _ _ => 4
  | .and _ _ _ => 4
  | .addiw _ _ _ => 4
  | .slliw _ _ _ => 4
  | .srliw _ _ _ => 4
  | .sraiw _ _ _ => 4
  | .addw _ _ _ => 4
  | .subw _ _ _ => 4
  | .sllw _ _ _ => 4
  | .srlw _ _ _ => 4
  | .sraw _ _ _ => 4
  | .mul _ _ _ => 4
  | .mulh _ _ _ => 4
  | .mulhsu _ _ _ => 4
  | .mulhu _ _ _ => 4
  | .div _ _ _ => 4
  | .divu _ _ _ => 4
  | .rem _ _ _ => 4
  | .remu _ _ _ => 4
  | .mulw _ _ _ => 4
  | .divw _ _ _ => 4
  | .divuw _ _ _ => 4
  | .remw _ _ _ => 4
  | .remuw _ _ _ => 4
  | .jal _ _ => 4
  | .jalr _ _ _ => 4
  | .beq _ _ _ => 4
  | .bne _ _ _ => 4
  | .blt _ _ _ => 4
  | .bge _ _ _ => 4
  | .bltu _ _ _ => 4
  | .bgeu _ _ _ => 4
  | .lb _ _ _ => 4
  | .lh _ _ _ => 4
  | .lw _ _ _ => 4
  | .ld _ _ _ => 4
  | .lbu _ _ _ => 4
  | .lhu _ _ _ => 4
  | .lwu _ _ _ => 4
  | .sb _ _ _ => 4
  | .sh _ _ _ => 4
  | .sw _ _ _ => 4
  | .sd _ _ _ => 4
  | .fence _ _ _ _ _ => 4
  | .fenceI _ _ _ => 4
  | .ecall => 4
  | .ebreak => 4
  | .csrrw _ _ _ => 4
  | .csrrs _ _ _ => 4
  | .csrrc _ _ _ => 4
  | .csrrwi _ _ _ => 4
  | .csrrsi _ _ _ => 4
  | .csrrci _ _ _ => 4
  | .lrW _ _ _ _ => 4
  | .lrD _ _ _ _ => 4
  | .scW _ _ _ _ _ => 4
  | .scD _ _ _ _ _ => 4
  | .amoswapW _ _ _ _ _ => 4
  | .amoaddW _ _ _ _ _ => 4
  | .amoxorW _ _ _ _ _ => 4
  | .amoandW _ _ _ _ _ => 4
  | .amoorW _ _ _ _ _ => 4
  | .amominW _ _ _ _ _ => 4
  | .amomaxW _ _ _ _ _ => 4
  | .amominuW _ _ _ _ _ => 4
  | .amomaxuW _ _ _ _ _ => 4
  | .amoswapD _ _ _ _ _ => 4
  | .amoaddD _ _ _ _ _ => 4
  | .amoxorD _ _ _ _ _ => 4
  | .amoandD _ _ _ _ _ => 4
  | .amoorD _ _ _ _ _ => 4
  | .amominD _ _ _ _ _ => 4
  | .amomaxD _ _ _ _ _ => 4
  | .amominuD _ _ _ _ _ => 4
  | .amomaxuD _ _ _ _ _ => 4
  | .flw _ _ _ => 4
  | .fsw _ _ _ => 4
  | .fmaddS _ _ _ _ _ => 4
  | .fmsubS _ _ _ _ _ => 4
  | .fnmsubS _ _ _ _ _ => 4
  | .fnmaddS _ _ _ _ _ => 4
  | .faddS _ _ _ _ => 4
  | .fsubS _ _ _ _ => 4
  | .fmulS _ _ _ _ => 4
  | .fdivS _ _ _ _ => 4
  | .fsqrtS _ _ _ => 4
  | .fsgnjS _ _ _ => 4
  | .fsgnjnS _ _ _ => 4
  | .fsgnjxS _ _ _ => 4
  | .fminS _ _ _ => 4
  | .fmaxS _ _ _ => 4
  | .fleS _ _ _ => 4
  | .fltS _ _ _ => 4
  | .feqS _ _ _ => 4
  | .fcvtWS _ _ _ => 4
  | .fcvtSW _ _ _ => 4
  | .fcvtWuS _ _ _ => 4
  | .fcvtSWu _ _ _ => 4
  | .fcvtLS _ _ _ => 4
  | .fcvtSL _ _ _ => 4
  | .fcvtLuS _ _ _ => 4
  | .fcvtSLu _ _ _ => 4
  | .fmvXW _ _ => 4
  | .fclassS _ _ => 4
  | .fmvWX _ _ => 4
  | .fld _ _ _ => 4
  | .fsd _ _ _ => 4
  | .fmaddD _ _ _ _ _ => 4
  | .fmsubD _ _ _ _ _ => 4
  | .fnmsubD _ _ _ _ _ => 4
  | .fnmaddD _ _ _ _ _ => 4
  | .faddD _ _ _ _ => 4
  | .fsubD _ _ _ _ => 4
  | .fmulD _ _ _ _ => 4
  | .fdivD _ _ _ _ => 4
  | .fsqrtD _ _ _ => 4
  | .fsgnjD _ _ _ => 4
  | .fsgnjnD _ _ _ => 4
  | .fsgnjxD _ _ _ => 4
  | .fminD _ _ _ => 4
  | .fmaxD _ _ _ => 4
  | .fleD _ _ _ => 4
  | .fltD _ _ _ => 4
  | .feqD _ _ _ => 4
  | .fcvtWD _ _ _ => 4
  | .fcvtDW _ _ _ => 4
  | .fcvtWuD _ _ _ => 4
  | .fcvtDWu _ _ _ => 4
  | .fcvtLD _ _ _ => 4
  | .fcvtDL _ _ _ => 4
  | .fcvtLuD _ _ _ => 4
  | .fcvtDLu _ _ _ => 4
  | .fmvXD _ _ => 4
  | .fclassD _ _ => 4
  | .fmvDX _ _ => 4
  | .fcvtSD _ _ _ => 4
  | .fcvtDS _ _ _ => 4
  | .cAddi4spn _ _ => 2
  | .cFld _ _ _ => 2
  | .cLw _ _ _ => 2
  | .cLd _ _ _ => 2
  | .cFsd _ _ _ => 2
  | .cSw _ _ _ => 2
  | .cSd _ _ _ => 2
  | .cNop _ => 2
  | .cAddi _ _ => 2
  | .cAddiw _ _ => 2
  | .cLi _ _ => 2
  | .cAddi16sp _ => 2
  | .cLui _ _ => 2
  | .cSrli _ _ => 2
  | .cSrai _ _ => 2
  | .cAndi _ _ => 2
  | .cSub _ _ => 2
  | .cXor _ _ => 2
  | .cOr _ _ => 2
  | .cAnd _ _ => 2
  | .cSubw _ _ => 2
  | .cAddw _ _ => 2
  | .cJ _ => 2
  | .cBeqz _ _ => 2
  | .cBnez _ _ => 2
  | .cSlli _ _ => 2
  | .cFldsp _ _ => 2
  | .cLwsp _ _ => 2
  | .cLdsp _ _ => 2
  | .cJr _ => 2
  | .cMv _ _ => 2
  | .cEbreak => 2
  | .cJalr _ => 2
  | .cAdd _ _ => 2
  | .cFsdsp _ _ => 2
  | .cSwsp _ _ => 2
  | .cSdsp _ _ => 2

/-- The structural types of rule R121 (the vector form apart: no row of the table has it). -/
inductive Format where
  | r | i | s | b | u | j | r4 | cr | ci | css | ciw | cl | cs | ca | cb | cj
  deriving DecidableEq, Repr

/-- The one structural type of an instruction (rule R121), as spec/opcode_table.json gives it. -/
def Instr.format : Instr → Format
  | .lui _ _ => .u
  | .auipc _ _ => .u
  | .addi _ _ _ => .i
  | .slti _ _ _ => .i
  | .sltiu _ _ _ => .i
  | .xori _ _ _ => .i
  | .ori _ _ _ => .i
  | .andi _ _ _ => .i
  | .slli _ _ _ => .i
  | .srli _ _ _ => .i
  | .srai _ _ _ => .i
  | .add _ _ _ => .r
  | .sub _ _ _ => .r
  | .sll _ _ _ => .r
  | .slt _ _ _ => .r
  | .sltu _ _ _ => .r
  | .xor _ _ _ => .r
  | .srl _ _ _ => .r
  | .sra _ _ _ => .r
  | .or _ _ _ => .r
  | .and _ _ _ => .r
  | .addiw _ _ _ => .i
  | .slliw _ _ _ => .i
  | .srliw _ _ _ => .i
  | .sraiw _ _ _ => .i
  | .addw _ _ _ => .r
  | .subw _ _ _ => .r
  | .sllw _ _ _ => .r
  | .srlw _ _ _ => .r
  | .sraw _ _ _ => .r
  | .mul _ _ _ => .r
  | .mulh _ _ _ => .r
  | .mulhsu _ _ _ => .r
  | .mulhu _ _ _ => .r
  | .div _ _ _ => .r
  | .divu _ _ _ => .r
  | .rem _ _ _ => .r
  | .remu _ _ _ => .r
  | .mulw _ _ _ => .r
  | .divw _ _ _ => .r
  | .divuw _ _ _ => .r
  | .remw _ _ _ => .r
  | .remuw _ _ _ => .r
  | .jal _ _ => .j
  | .jalr _ _ _ => .i
  | .beq _ _ _ => .b
  | .bne _ _ _ => .b
  | .blt _ _ _ => .b
  | .bge _ _ _ => .b
  | .bltu _ _ _ => .b
  | .bgeu _ _ _ => .b
  | .lb _ _ _ => .i
  | .lh _ _ _ => .i
  | .lw _ _ _ => .i
  | .ld _ _ _ => .i
  | .lbu _ _ _ => .i
  | .lhu _ _ _ => .i
  | .lwu _ _ _ => .i
  | .sb _ _ _ => .s
  | .sh _ _ _ => .s
  | .sw _ _ _ => .s
  | .sd _ _ _ => .s
  | .fence _ _ _ _ _ => .i
  | .fenceI _ _ _ => .i
  | .ecall => .i
  | .ebreak => .i
  | .csrrw _ _ _ => .i
  | .csrrs _ _ _ => .i
  | .csrrc _ _ _ => .i
  | .csrrwi _ _ _ => .i
  | .csrrsi _ _ _ => .i
  | .csrrci _ _ _ => .i
  | .lrW _ _ _ _ => .r
  | .lrD _ _ _ _ => .r
  | .scW _ _ _ _ _ => .r
  | .scD _ _ _ _ _ => .r
  | .amoswapW _ _ _ _ _ => .r
  | .amoaddW _ _ _ _ _ => .r
  | .amoxorW _ _ _ _ _ => .r
  | .amoandW _ _ _ _ _ => .r
  | .amoorW _ _ _ _ _ => .r
  | .amominW _ _ _ _ _ => .r
  | .amomaxW _ _ _ _ _ => .r
  | .amominuW _ _ _ _ _ => .r
  | .amomaxuW _ _ _ _ _ => .r
  | .amoswapD _ _ _ _ _ => .r
  | .amoaddD _ _ _ _ _ => .r
  | .amoxorD _ _ _ _ _ => .r
  | .amoandD _ _ _ _ _ => .r
  | .amoorD _ _ _ _ _ => .r
  | .amominD _ _ _ _ _ => .r
  | .amomaxD _ _ _ _ _ => .r
  | .amominuD _ _ _ _ _ => .r
  | .amomaxuD _ _ _ _ _ => .r
  | .flw _ _ _ => .i
  | .fsw _ _ _ => .s
  | .fmaddS _ _ _ _ _ => .r4
  | .fmsubS _ _ _ _ _ => .r4
  | .fnmsubS _ _ _ _ _ => .r4
  | .fnmaddS _ _ _ _ _ => .r4
  | .faddS _ _ _ _ => .r
  | .fsubS _ _ _ _ => .r
  | .fmulS _ _ _ _ => .r
  | .fdivS _ _ _ _ => .r
  | .fsqrtS _ _ _ => .r
  | .fsgnjS _ _ _ => .r
  | .fsgnjnS _ _ _ => .r
  | .fsgnjxS _ _ _ => .r
  | .fminS _ _ _ => .r
  | .fmaxS _ _ _ => .r
  | .fleS _ _ _ => .r
  | .fltS _ _ _ => .r
  | .feqS _ _ _ => .r
  | .fcvtWS _ _ _ => .r
  | .fcvtSW _ _ _ => .r
  | .fcvtWuS _ _ _ => .r
  | .fcvtSWu _ _ _ => .r
  | .fcvtLS _ _ _ => .r
  | .fcvtSL _ _ _ => .r
  | .fcvtLuS _ _ _ => .r
  | .fcvtSLu _ _ _ => .r
  | .fmvXW _ _ => .r
  | .fclassS _ _ => .r
  | .fmvWX _ _ => .r
  | .fld _ _ _ => .i
  | .fsd _ _ _ => .s
  | .fmaddD _ _ _ _ _ => .r4
  | .fmsubD _ _ _ _ _ => .r4
  | .fnmsubD _ _ _ _ _ => .r4
  | .fnmaddD _ _ _ _ _ => .r4
  | .faddD _ _ _ _ => .r
  | .fsubD _ _ _ _ => .r
  | .fmulD _ _ _ _ => .r
  | .fdivD _ _ _ _ => .r
  | .fsqrtD _ _ _ => .r
  | .fsgnjD _ _ _ => .r
  | .fsgnjnD _ _ _ => .r
  | .fsgnjxD _ _ _ => .r
  | .fminD _ _ _ => .r
  | .fmaxD _ _ _ => .r
  | .fleD _ _ _ => .r
  | .fltD _ _ _ => .r
  | .feqD _ _ _ => .r
  | .fcvtWD _ _ _ => .r
  | .fcvtDW _ _ _ => .r
  | .fcvtWuD _ _ _ => .r
  | .fcvtDWu _ _ _ => .r
  | .fcvtLD _ _ _ => .r
  | .fcvtDL _ _ _ => .r
  | .fcvtLuD _ _ _ => .r
  | .fcvtDLu _ _ _ => .r
  | .fmvXD _ _ => .r
  | .fclassD _ _ => .r
  | .fmvDX _ _ => .r
  | .fcvtSD _ _ _ => .r
  | .fcvtDS _ _ _ => .r
  | .cAddi4spn _ _ => .ciw
  | .cFld _ _ _ => .cl
  | .cLw _ _ _ => .cl
  | .cLd _ _ _ => .cl
  | .cFsd _ _ _ => .cs
  | .cSw _ _ _ => .cs
  | .cSd _ _ _ => .cs
  | .cNop _ => .ci
  | .cAddi _ _ => .ci
  | .cAddiw _ _ => .ci
  | .cLi _ _ => .ci
  | .cAddi16sp _ => .ci
  | .cLui _ _ => .ci
  | .cSrli _ _ => .cb
  | .cSrai _ _ => .cb
  | .cAndi _ _ => .cb
  | .cSub _ _ => .ca
  | .cXor _ _ => .ca
  | .cOr _ _ => .ca
  | .cAnd _ _ => .ca
  | .cSubw _ _ => .ca
  | .cAddw _ _ => .ca
  | .cJ _ => .cj
  | .cBeqz _ _ => .cb
  | .cBnez _ _ => .cb
  | .cSlli _ _ => .ci
  | .cFldsp _ _ => .ci
  | .cLwsp _ _ => .ci
  | .cLdsp _ _ => .ci
  | .cJr _ => .cr
  | .cMv _ _ => .cr
  | .cEbreak => .cr
  | .cJalr _ => .cr
  | .cAdd _ _ => .cr
  | .cFsdsp _ _ => .css
  | .cSwsp _ _ => .css
  | .cSdsp _ _ => .css

/-- A row of spec/opcode_table.json: a word belongs to it when `word &&& mask = pattern` and its constraints hold. -/
structure TableRow where
  pattern : BitVec 32
  mask : BitVec 32
  deriving DecidableEq, Repr

/-- The row of spec/opcode_table.json of an instruction. -/
def Instr.row : Instr → TableRow
  | .lui _ _ => ⟨0x00000037, 0x0000007F⟩
  | .auipc _ _ => ⟨0x00000017, 0x0000007F⟩
  | .addi _ _ _ => ⟨0x00000013, 0x0000707F⟩
  | .slti _ _ _ => ⟨0x00002013, 0x0000707F⟩
  | .sltiu _ _ _ => ⟨0x00003013, 0x0000707F⟩
  | .xori _ _ _ => ⟨0x00004013, 0x0000707F⟩
  | .ori _ _ _ => ⟨0x00006013, 0x0000707F⟩
  | .andi _ _ _ => ⟨0x00007013, 0x0000707F⟩
  | .slli _ _ _ => ⟨0x00001013, 0xFC00707F⟩
  | .srli _ _ _ => ⟨0x00005013, 0xFC00707F⟩
  | .srai _ _ _ => ⟨0x40005013, 0xFC00707F⟩
  | .add _ _ _ => ⟨0x00000033, 0xFE00707F⟩
  | .sub _ _ _ => ⟨0x40000033, 0xFE00707F⟩
  | .sll _ _ _ => ⟨0x00001033, 0xFE00707F⟩
  | .slt _ _ _ => ⟨0x00002033, 0xFE00707F⟩
  | .sltu _ _ _ => ⟨0x00003033, 0xFE00707F⟩
  | .xor _ _ _ => ⟨0x00004033, 0xFE00707F⟩
  | .srl _ _ _ => ⟨0x00005033, 0xFE00707F⟩
  | .sra _ _ _ => ⟨0x40005033, 0xFE00707F⟩
  | .or _ _ _ => ⟨0x00006033, 0xFE00707F⟩
  | .and _ _ _ => ⟨0x00007033, 0xFE00707F⟩
  | .addiw _ _ _ => ⟨0x0000001B, 0x0000707F⟩
  | .slliw _ _ _ => ⟨0x0000101B, 0xFE00707F⟩
  | .srliw _ _ _ => ⟨0x0000501B, 0xFE00707F⟩
  | .sraiw _ _ _ => ⟨0x4000501B, 0xFE00707F⟩
  | .addw _ _ _ => ⟨0x0000003B, 0xFE00707F⟩
  | .subw _ _ _ => ⟨0x4000003B, 0xFE00707F⟩
  | .sllw _ _ _ => ⟨0x0000103B, 0xFE00707F⟩
  | .srlw _ _ _ => ⟨0x0000503B, 0xFE00707F⟩
  | .sraw _ _ _ => ⟨0x4000503B, 0xFE00707F⟩
  | .mul _ _ _ => ⟨0x02000033, 0xFE00707F⟩
  | .mulh _ _ _ => ⟨0x02001033, 0xFE00707F⟩
  | .mulhsu _ _ _ => ⟨0x02002033, 0xFE00707F⟩
  | .mulhu _ _ _ => ⟨0x02003033, 0xFE00707F⟩
  | .div _ _ _ => ⟨0x02004033, 0xFE00707F⟩
  | .divu _ _ _ => ⟨0x02005033, 0xFE00707F⟩
  | .rem _ _ _ => ⟨0x02006033, 0xFE00707F⟩
  | .remu _ _ _ => ⟨0x02007033, 0xFE00707F⟩
  | .mulw _ _ _ => ⟨0x0200003B, 0xFE00707F⟩
  | .divw _ _ _ => ⟨0x0200403B, 0xFE00707F⟩
  | .divuw _ _ _ => ⟨0x0200503B, 0xFE00707F⟩
  | .remw _ _ _ => ⟨0x0200603B, 0xFE00707F⟩
  | .remuw _ _ _ => ⟨0x0200703B, 0xFE00707F⟩
  | .jal _ _ => ⟨0x0000006F, 0x0000007F⟩
  | .jalr _ _ _ => ⟨0x00000067, 0x0000707F⟩
  | .beq _ _ _ => ⟨0x00000063, 0x0000707F⟩
  | .bne _ _ _ => ⟨0x00001063, 0x0000707F⟩
  | .blt _ _ _ => ⟨0x00004063, 0x0000707F⟩
  | .bge _ _ _ => ⟨0x00005063, 0x0000707F⟩
  | .bltu _ _ _ => ⟨0x00006063, 0x0000707F⟩
  | .bgeu _ _ _ => ⟨0x00007063, 0x0000707F⟩
  | .lb _ _ _ => ⟨0x00000003, 0x0000707F⟩
  | .lh _ _ _ => ⟨0x00001003, 0x0000707F⟩
  | .lw _ _ _ => ⟨0x00002003, 0x0000707F⟩
  | .ld _ _ _ => ⟨0x00003003, 0x0000707F⟩
  | .lbu _ _ _ => ⟨0x00004003, 0x0000707F⟩
  | .lhu _ _ _ => ⟨0x00005003, 0x0000707F⟩
  | .lwu _ _ _ => ⟨0x00006003, 0x0000707F⟩
  | .sb _ _ _ => ⟨0x00000023, 0x0000707F⟩
  | .sh _ _ _ => ⟨0x00001023, 0x0000707F⟩
  | .sw _ _ _ => ⟨0x00002023, 0x0000707F⟩
  | .sd _ _ _ => ⟨0x00003023, 0x0000707F⟩
  | .fence _ _ _ _ _ => ⟨0x0000000F, 0x0000707F⟩
  | .fenceI _ _ _ => ⟨0x0000100F, 0x0000707F⟩
  | .ecall => ⟨0x00000073, 0xFFFFFFFF⟩
  | .ebreak => ⟨0x00100073, 0xFFFFFFFF⟩
  | .csrrw _ _ _ => ⟨0x00001073, 0x0000707F⟩
  | .csrrs _ _ _ => ⟨0x00002073, 0x0000707F⟩
  | .csrrc _ _ _ => ⟨0x00003073, 0x0000707F⟩
  | .csrrwi _ _ _ => ⟨0x00005073, 0x0000707F⟩
  | .csrrsi _ _ _ => ⟨0x00006073, 0x0000707F⟩
  | .csrrci _ _ _ => ⟨0x00007073, 0x0000707F⟩
  | .lrW _ _ _ _ => ⟨0x1000202F, 0xF9F0707F⟩
  | .lrD _ _ _ _ => ⟨0x1000302F, 0xF9F0707F⟩
  | .scW _ _ _ _ _ => ⟨0x1800202F, 0xF800707F⟩
  | .scD _ _ _ _ _ => ⟨0x1800302F, 0xF800707F⟩
  | .amoswapW _ _ _ _ _ => ⟨0x0800202F, 0xF800707F⟩
  | .amoaddW _ _ _ _ _ => ⟨0x0000202F, 0xF800707F⟩
  | .amoxorW _ _ _ _ _ => ⟨0x2000202F, 0xF800707F⟩
  | .amoandW _ _ _ _ _ => ⟨0x6000202F, 0xF800707F⟩
  | .amoorW _ _ _ _ _ => ⟨0x4000202F, 0xF800707F⟩
  | .amominW _ _ _ _ _ => ⟨0x8000202F, 0xF800707F⟩
  | .amomaxW _ _ _ _ _ => ⟨0xA000202F, 0xF800707F⟩
  | .amominuW _ _ _ _ _ => ⟨0xC000202F, 0xF800707F⟩
  | .amomaxuW _ _ _ _ _ => ⟨0xE000202F, 0xF800707F⟩
  | .amoswapD _ _ _ _ _ => ⟨0x0800302F, 0xF800707F⟩
  | .amoaddD _ _ _ _ _ => ⟨0x0000302F, 0xF800707F⟩
  | .amoxorD _ _ _ _ _ => ⟨0x2000302F, 0xF800707F⟩
  | .amoandD _ _ _ _ _ => ⟨0x6000302F, 0xF800707F⟩
  | .amoorD _ _ _ _ _ => ⟨0x4000302F, 0xF800707F⟩
  | .amominD _ _ _ _ _ => ⟨0x8000302F, 0xF800707F⟩
  | .amomaxD _ _ _ _ _ => ⟨0xA000302F, 0xF800707F⟩
  | .amominuD _ _ _ _ _ => ⟨0xC000302F, 0xF800707F⟩
  | .amomaxuD _ _ _ _ _ => ⟨0xE000302F, 0xF800707F⟩
  | .flw _ _ _ => ⟨0x00002007, 0x0000707F⟩
  | .fsw _ _ _ => ⟨0x00002027, 0x0000707F⟩
  | .fmaddS _ _ _ _ _ => ⟨0x00000043, 0x0600007F⟩
  | .fmsubS _ _ _ _ _ => ⟨0x00000047, 0x0600007F⟩
  | .fnmsubS _ _ _ _ _ => ⟨0x0000004B, 0x0600007F⟩
  | .fnmaddS _ _ _ _ _ => ⟨0x0000004F, 0x0600007F⟩
  | .faddS _ _ _ _ => ⟨0x00000053, 0xFE00007F⟩
  | .fsubS _ _ _ _ => ⟨0x08000053, 0xFE00007F⟩
  | .fmulS _ _ _ _ => ⟨0x10000053, 0xFE00007F⟩
  | .fdivS _ _ _ _ => ⟨0x18000053, 0xFE00007F⟩
  | .fsqrtS _ _ _ => ⟨0x58000053, 0xFFF0007F⟩
  | .fsgnjS _ _ _ => ⟨0x20000053, 0xFE00707F⟩
  | .fsgnjnS _ _ _ => ⟨0x20001053, 0xFE00707F⟩
  | .fsgnjxS _ _ _ => ⟨0x20002053, 0xFE00707F⟩
  | .fminS _ _ _ => ⟨0x28000053, 0xFE00707F⟩
  | .fmaxS _ _ _ => ⟨0x28001053, 0xFE00707F⟩
  | .fleS _ _ _ => ⟨0xA0000053, 0xFE00707F⟩
  | .fltS _ _ _ => ⟨0xA0001053, 0xFE00707F⟩
  | .feqS _ _ _ => ⟨0xA0002053, 0xFE00707F⟩
  | .fcvtWS _ _ _ => ⟨0xC0000053, 0xFFF0007F⟩
  | .fcvtSW _ _ _ => ⟨0xD0000053, 0xFFF0007F⟩
  | .fcvtWuS _ _ _ => ⟨0xC0100053, 0xFFF0007F⟩
  | .fcvtSWu _ _ _ => ⟨0xD0100053, 0xFFF0007F⟩
  | .fcvtLS _ _ _ => ⟨0xC0200053, 0xFFF0007F⟩
  | .fcvtSL _ _ _ => ⟨0xD0200053, 0xFFF0007F⟩
  | .fcvtLuS _ _ _ => ⟨0xC0300053, 0xFFF0007F⟩
  | .fcvtSLu _ _ _ => ⟨0xD0300053, 0xFFF0007F⟩
  | .fmvXW _ _ => ⟨0xE0000053, 0xFFF0707F⟩
  | .fclassS _ _ => ⟨0xE0001053, 0xFFF0707F⟩
  | .fmvWX _ _ => ⟨0xF0000053, 0xFFF0707F⟩
  | .fld _ _ _ => ⟨0x00003007, 0x0000707F⟩
  | .fsd _ _ _ => ⟨0x00003027, 0x0000707F⟩
  | .fmaddD _ _ _ _ _ => ⟨0x02000043, 0x0600007F⟩
  | .fmsubD _ _ _ _ _ => ⟨0x02000047, 0x0600007F⟩
  | .fnmsubD _ _ _ _ _ => ⟨0x0200004B, 0x0600007F⟩
  | .fnmaddD _ _ _ _ _ => ⟨0x0200004F, 0x0600007F⟩
  | .faddD _ _ _ _ => ⟨0x02000053, 0xFE00007F⟩
  | .fsubD _ _ _ _ => ⟨0x0A000053, 0xFE00007F⟩
  | .fmulD _ _ _ _ => ⟨0x12000053, 0xFE00007F⟩
  | .fdivD _ _ _ _ => ⟨0x1A000053, 0xFE00007F⟩
  | .fsqrtD _ _ _ => ⟨0x5A000053, 0xFFF0007F⟩
  | .fsgnjD _ _ _ => ⟨0x22000053, 0xFE00707F⟩
  | .fsgnjnD _ _ _ => ⟨0x22001053, 0xFE00707F⟩
  | .fsgnjxD _ _ _ => ⟨0x22002053, 0xFE00707F⟩
  | .fminD _ _ _ => ⟨0x2A000053, 0xFE00707F⟩
  | .fmaxD _ _ _ => ⟨0x2A001053, 0xFE00707F⟩
  | .fleD _ _ _ => ⟨0xA2000053, 0xFE00707F⟩
  | .fltD _ _ _ => ⟨0xA2001053, 0xFE00707F⟩
  | .feqD _ _ _ => ⟨0xA2002053, 0xFE00707F⟩
  | .fcvtWD _ _ _ => ⟨0xC2000053, 0xFFF0007F⟩
  | .fcvtDW _ _ _ => ⟨0xD2000053, 0xFFF0007F⟩
  | .fcvtWuD _ _ _ => ⟨0xC2100053, 0xFFF0007F⟩
  | .fcvtDWu _ _ _ => ⟨0xD2100053, 0xFFF0007F⟩
  | .fcvtLD _ _ _ => ⟨0xC2200053, 0xFFF0007F⟩
  | .fcvtDL _ _ _ => ⟨0xD2200053, 0xFFF0007F⟩
  | .fcvtLuD _ _ _ => ⟨0xC2300053, 0xFFF0007F⟩
  | .fcvtDLu _ _ _ => ⟨0xD2300053, 0xFFF0007F⟩
  | .fmvXD _ _ => ⟨0xE2000053, 0xFFF0707F⟩
  | .fclassD _ _ => ⟨0xE2001053, 0xFFF0707F⟩
  | .fmvDX _ _ => ⟨0xF2000053, 0xFFF0707F⟩
  | .fcvtSD _ _ _ => ⟨0x40100053, 0xFFF0007F⟩
  | .fcvtDS _ _ _ => ⟨0x42000053, 0xFFF0007F⟩
  | .cAddi4spn _ _ => ⟨0x00000000, 0x0000E003⟩
  | .cFld _ _ _ => ⟨0x00002000, 0x0000E003⟩
  | .cLw _ _ _ => ⟨0x00004000, 0x0000E003⟩
  | .cLd _ _ _ => ⟨0x00006000, 0x0000E003⟩
  | .cFsd _ _ _ => ⟨0x0000A000, 0x0000E003⟩
  | .cSw _ _ _ => ⟨0x0000C000, 0x0000E003⟩
  | .cSd _ _ _ => ⟨0x0000E000, 0x0000E003⟩
  | .cNop _ => ⟨0x00000001, 0x0000EF83⟩
  | .cAddi _ _ => ⟨0x00000001, 0x0000E003⟩
  | .cAddiw _ _ => ⟨0x00002001, 0x0000E003⟩
  | .cLi _ _ => ⟨0x00004001, 0x0000E003⟩
  | .cAddi16sp _ => ⟨0x00006101, 0x0000EF83⟩
  | .cLui _ _ => ⟨0x00006001, 0x0000E003⟩
  | .cSrli _ _ => ⟨0x00008001, 0x0000EC03⟩
  | .cSrai _ _ => ⟨0x00008401, 0x0000EC03⟩
  | .cAndi _ _ => ⟨0x00008801, 0x0000EC03⟩
  | .cSub _ _ => ⟨0x00008C01, 0x0000FC63⟩
  | .cXor _ _ => ⟨0x00008C21, 0x0000FC63⟩
  | .cOr _ _ => ⟨0x00008C41, 0x0000FC63⟩
  | .cAnd _ _ => ⟨0x00008C61, 0x0000FC63⟩
  | .cSubw _ _ => ⟨0x00009C01, 0x0000FC63⟩
  | .cAddw _ _ => ⟨0x00009C21, 0x0000FC63⟩
  | .cJ _ => ⟨0x0000A001, 0x0000E003⟩
  | .cBeqz _ _ => ⟨0x0000C001, 0x0000E003⟩
  | .cBnez _ _ => ⟨0x0000E001, 0x0000E003⟩
  | .cSlli _ _ => ⟨0x00000002, 0x0000E003⟩
  | .cFldsp _ _ => ⟨0x00002002, 0x0000E003⟩
  | .cLwsp _ _ => ⟨0x00004002, 0x0000E003⟩
  | .cLdsp _ _ => ⟨0x00006002, 0x0000E003⟩
  | .cJr _ => ⟨0x00008002, 0x0000F07F⟩
  | .cMv _ _ => ⟨0x00008002, 0x0000F003⟩
  | .cEbreak => ⟨0x00009002, 0x0000FFFF⟩
  | .cJalr _ => ⟨0x00009002, 0x0000F07F⟩
  | .cAdd _ _ => ⟨0x00009002, 0x0000F003⟩
  | .cFsdsp _ _ => ⟨0x0000A002, 0x0000E003⟩
  | .cSwsp _ _ => ⟨0x0000C002, 0x0000E003⟩
  | .cSdsp _ _ => ⟨0x0000E002, 0x0000E003⟩

end Sys2Proof
end

