-- ==== Sys2Proof/Config.lean ====
section
/-! DEFINITION. What an implementation fixes: the parameters of spec/00_scope.md rule R10 with the defaults the spec
decides, and the one free value of the model, the answer of a vector unit (spec/48_vector_interface.md rule R500). -/

namespace Sys2Proof

/-- `FP_ARITH_MODE` (spec/45_fp_primitives.md rule R375). -/
inductive FpArithMode where
  /-- Correctly rounded in the effective mode, all five flags. -/
  | ieeeFull
  /-- Rounded to nearest even always; OF, UF and NX are not raised. -/
  | hostRne
  deriving DecidableEq, Repr

/-- `MEM_MODEL` (spec/00_scope.md rule R10): the spec gives it one value. -/
inductive MemModel where
  /-- Sequential consistency of whole instructions (spec/20_memory.md rule R99). -/
  | sc
  deriving DecidableEq, Repr

/-- The parameters of spec/00_scope.md rule R10. The machine's state holds one `Config` and no step changes it, so a
statement about every state is a statement about every value of the parameters (log entry 16). -/
structure Config where
  /-- `REQUIRE_ALIGNMENT`: ordinary loads and stores must be naturally aligned. -/
  requireAlignment : Bool
  /-- `NULL_PAGE_SIZE` in bytes. -/
  nullPageSize : Nat
  /-- `END_SIM_PC`: the sentinel pc that ends a run. -/
  endSimPc : Word
  /-- `ICOUNT_STOP`: the instruction-count stop threshold. -/
  icountStop : Option Nat
  /-- `STACK_ALIGN` in bytes. -/
  stackAlign : Nat
  /-- `NUM_HARTS`: how many harts share memory and the Global Monitor (`Machine.State.create`; at most as many are ever attached:
  `Machine.State.attach`). -/
  numHarts : Nat
  /-- `SC_FORCED_FAIL_PERIOD`: successes before the Global Monitor forces a failure. -/
  scForcedFailPeriod : Nat
  /-- `RESERVATION_GRANULE`: bytes of the masked address, a power of two. -/
  reservationGranule : Nat
  /-- `FP_ARITH_MODE`. -/
  fpArithMode : FpArithMode
  /-- `HAS_VECTOR_UNIT`: whether a vector unit is attached to the vector-unit port. -/
  hasVectorUnit : Bool
  /-- `MEM_MODEL`. -/
  memModel : MemModel
  deriving DecidableEq, Repr

/-- The defaults of spec/00_scope.md rule R10. -/
def Config.default : Config where
  requireAlignment := false
  nullPageSize := 0x1000
  endSimPc := 0xFFFF_FFFF_FFFF_FFFE
  icountStop := none
  stackAlign := 16
  numHarts := 1
  scForcedFailPeriod := 5
  reservationGranule := 8
  fpArithMode := .ieeeFull
  hasVectorUnit := false
  memModel := .sc

/-- One access the vector unit makes through the block's data port (spec/48_vector_interface.md rule R500). -/
inductive VectorAccess where
  /-- `MemRead(addr, 2^log2Bytes)`; what the unit does with the value is inside the unit. -/
  | read (addr : Word) (log2Bytes : Fin 4)
  /-- `MemWrite(addr, 2^log2Bytes, value)`. -/
  | write (addr : Word) (log2Bytes : Fin 4) (value : Word)
  deriving DecidableEq, Repr

/-- What the block shows the vector unit (spec/48_vector_interface.md rule R500): the word, the registers its fields name,
the pc, and, through the data port, memory. `hart` says whose unit is asked, and `unit` is that unit's own state, which is
outside the block (spec/10_state.md rule R50): a number that nothing in the model interprets. -/
structure VectorRequest where
  hart : Nat
  unit : Nat
  word : BitVec 32
  xrs1 : Word
  xrs2 : Word
  frs1 : Word
  pc : Word
  mem : List (Nat × Byte)
  deriving DecidableEq, Repr

/-- All the vector unit may change of the block (spec/48_vector_interface.md rules R500, R512): one integer register, one
floating-point register, flags by OR, memory by accesses; and its own state. -/
structure VectorAnswer where
  unit : Nat
  xrd : Option Word
  frd : Option Word
  flags : BitVec 5
  accesses : List VectorAccess
  deriving DecidableEq, Repr, Inhabited

/-- FREE VALUE. The vector unit as an oracle (spec/48_vector_interface.md rules R500, R512): nothing constrains its
answers. DESIGN CHOICE, safe (log entry 6). -/
opaque Config.vectorUnit : VectorRequest → VectorAnswer

end Sys2Proof
end

