-- ==== Sys2Proof/Machine/State.lean ====
section
/-! DEFINITION. The state of the system (spec/10_state.md): the hart that makes the next step, the other harts, the memory
they share, the parameters; the reset state (rule R60); the reasons a step can stop. -/

namespace Sys2Proof.Machine

/-- A halt cause (spec/60_exceptions.md rule R560). A halt is a NEXT state: the spec has no other end of a run. -/
inductive Cause where
  | reset
  | unimplementedInstruction
  | nullPageAccess
  | misalignedAccess
  | instructionAddressMisaligned
  | environmentCall
  | breakpoint
  | sentinel
  | breakpointHit
  | icountStop
  deriving DecidableEq, Repr

/-- `run` (spec/10_state.md rule R48). -/
inductive Run where
  | running
  | halted (cause : Cause) (info : Word)
  deriving DecidableEq, Repr

/-- The access size a Local Monitor remembers (spec/10_state.md rule R45). -/
inductive MonitorSize where
  | word
  | doubleword
  deriving DecidableEq, Repr

/-- The Local Monitor (spec/10_state.md rule R45, spec/49_atomics_monitor.md rule R520). -/
inductive LocalMonitor where
  | open
  | rmw (addr : Word) (size : MonitorSize)
  deriving DecidableEq, Repr

/-- The state of a Global Monitor record (spec/10_state.md rule R46). -/
inductive GmState where
  | open
  | rmw
  deriving DecidableEq, Repr

/-- A hart's record in the Global Monitor (spec/10_state.md rule R46, spec/49_atomics_monitor.md rule R527). -/
structure GmRecord where
  state : GmState
  addr : Word
  failCount : Nat
  deriving DecidableEq, Repr

/-- An entry of the Breakpoint Set (spec/10_state.md rule R49). -/
structure BreakpointEntry where
  addr : Word
  enabled : Bool
  temporary : Bool
  deriving DecidableEq, Repr

/-- What each hart has of its own (spec/60_exceptions.md rule R583), with its record of the Global Monitor. -/
structure Hart where
  /-- The hart's identifier, the key of its Global Monitor record. -/
  hartId : Nat
  /-- The integer registers (spec/10_state.md rule R30). -/
  x : Vector Word 32
  /-- The floating-point registers (spec/10_state.md rule R38). -/
  f : Vector Word 32
  /-- The program counter (spec/10_state.md rule R34). -/
  pc : Word
  /-- `pc_modified` (spec/10_state.md rule R35). -/
  pcModified : Bool
  /-- The implemented bits 7:0 of `fcsr` (spec/10_state.md rule R41). -/
  fcsr : BitVec 8
  /-- The Local Monitor (spec/10_state.md rule R45). -/
  lm : LocalMonitor
  /-- This hart's Global Monitor record (spec/10_state.md rule R46). -/
  gm : GmRecord
  /-- `icount` (spec/10_state.md rule R47). -/
  icount : Word
  /-- `run` (spec/10_state.md rule R48). -/
  run : Run
  /-- `resume_skip` (spec/10_state.md rule R48). -/
  resumeSkip : Bool
  /-- The Breakpoint Set, in order (spec/10_state.md rule R49). -/
  breakpoints : List BreakpointEntry
  /-- THE MODEL'S OWN: the state of this hart's vector unit, which is outside the block (spec/48_vector_interface.md rule R500),
  as a number nothing interprets; only `Config.vectorUnit` reads it (log entry 5). -/
  vecUnit : Nat
  deriving DecidableEq, Repr

/-- Memory (spec/20_memory.md rule R81): address and byte, strictly rising addresses, no zero byte listed (DESIGN
CHOICE, unsafe: log entry 2). -/
abbrev Memory := List Host.Cell

/-- Addresses from the first number up to and without the second. -/
abbrev Range := Nat × Nat

/-- The system. The fields of `Hart` are those of the hart that makes the next step. -/
structure State extends Hart where
  /-- The hart in front exists: false only when the last hart of the system was destroyed (spec/49_atomics_monitor.md rule
  R527), and then no hart is in front and no record is held. -/
  attached : Bool
  /-- The other harts (spec/60_exceptions.md rule R583). -/
  harts : List Hart
  /-- The shared memory (spec/20_memory.md rule R80). -/
  mem : Memory
  /-- The addresses the environment has backed by storage (spec/20_memory.md rule R81). -/
  allocated : List Range
  /-- The parameters (spec/00_scope.md rule R10): no step changes them (log entry 16). -/
  cfg : Config
  /-- THE MODEL'S OWN: which hart makes each next step; empty, the same hart goes on (spec/20_memory.md rule R99, log entry 4). -/
  schedule : List Nat
  deriving DecidableEq, Repr

/-- Why a step is stuck. Every stop the spec gives the block is a halted next state (spec/60_exceptions.md rule R560), not a fault. -/
inductive Fault where
  /-- Raised by a data access (`onBacked`, `State.vectorAccess`) or a fetch (`State.stepHart`) that passes the block's checks and
  starts at `addr`, when one of its bytes is outside the allocated set: the model's own side (spec/20_memory.md rule R81). Safe. -/
  | unallocated (addr : Word)
  deriving DecidableEq, Repr

/-- Why a step has no meaning. -/
inductive Refusal where
  /-- Raised by no arm of `exec`: every instruction of the table has its meaning. Safe. -/
  | notModelled (mnemonic : String)
  deriving DecidableEq, Repr

/-- The outcome of an instruction or a step. -/
abbrev Result := Host.Outcome State Fault Refusal

/-- A hart right after its creation (spec/10_state.md rule R60); its `pc` is open until the launch (DESIGN
CHOICE, unsafe: log entries 1, 3 and 21). -/
def Hart.reset (id : Nat) : Hart where
  hartId := id
  x := Vector.replicate 32 0
  f := Vector.replicate 32 0
  pc := 0
  pcModified := false
  fcsr := 0
  lm := .open
  gm := { state := .open, addr := 0, failCount := 0 }
  icount := 0
  run := .halted .reset 0
  resumeSkip := false
  breakpoints := []
  vecUnit := 0

/-- The system of `NUM_HARTS` harts right after their creation (spec/60_exceptions.md rule R583, spec/70_reset_and_hazards.md
rule R600): nothing listed in memory, every address allocated until the environment says otherwise (DESIGN CHOICE, unsafe: log
entry 7). -/
def State.create (cfg : Config) : State where
  toHart := Hart.reset 0
  attached := true
  harts := (List.range (cfg.numHarts - 1)).map fun k => Hart.reset (k + 1)
  mem := []
  allocated := [(0, 2 ^ 64)]
  cfg := cfg
  schedule := []

/-- The system right after reset, with the default parameters (spec/10_state.md rule R60). -/
def State.reset : State := State.create Config.default

end Sys2Proof.Machine
end

