-- ==== Sys2Proof/Machine/Operands.lean ====
section
/-! DEFINITION. Operand forms: immediates and register fields as 64-bit values and register indices, the word halves of
registers, NaN boxing (spec/00_scope.md rule R12; spec/30_encoding.md rules R134, R141, R143; spec/10_state.md rule R39). -/

namespace Sys2Proof.Machine

/-- `sext_64` of a value of any width up to 64 (spec/00_scope.md rule R12). -/
def sext {n : Nat} (v : BitVec n) : Word := v.signExtend 64

/-- `zext_64` of a value of any width up to 64 (spec/00_scope.md rule R12). -/
def zext {n : Nat} (v : BitVec n) : Word := v.setWidth 64

/-- `v[31:0]`. -/
def lo32 (v : Word) : BitVec 32 := v.setWidth 32

/-- `imm_U`: `sext_64(inst[31:12] || 12'b0)` (spec/40_integer_compute.md rule R173). -/
def immUpper (imm20 : BitVec 20) : Word := sext (imm20 ++ 0#12)

/-- C.LUI: the 6-bit field is `nzimm[17:12]`, sign-extended (spec/44_compressed.md rule R333). -/
def immUpper6 (nzimm : BitVec 6) : Word := sext (nzimm ++ 0#12)

/-- The register an `r'` field names: `8 + r'` (spec/30_encoding.md rule R141). -/
def cReg (r : CReg) : Reg := 0b01#2 ++ r

/-- The stack pointer `x2`, implicit in the stack-pointer-relative compressed forms (spec/10_state.md rule R32). -/
def sp : Reg := 2#5

/-- The link register `x1`, implicit in C.JALR (spec/10_state.md rule R32). -/
def ra : Reg := 1#5

/-- A doubleword shift amount: the low 6 bits (spec/40_integer_compute.md rule R171). -/
def shamt64 (v : Word) : Nat := (v.setWidth 6).toNat

/-- A word shift amount: the low 5 bits (spec/40_integer_compute.md rule R171). -/
def shamt32 (v : Word) : Nat := (v.setWidth 5).toNat

/-- A jump target with bit 0 cleared (spec/41_control_transfer.md rule R254). -/
def clearBit0 (a : Word) : Word := a &&& ~~~1#64

/-- The canonical quiet NaN of single precision (spec/45_fp_primitives.md rule R376). -/
def canonicalNanS : BitVec 32 := 0x7FC00000#32

/-- `box32` (spec/10_state.md rule R39). -/
def box32 (w : BitVec 32) : Word := 0xFFFFFFFF#32 ++ w

/-- `unbox32`: a register that is not validly boxed reads as the quiet NaN (spec/10_state.md rule R39). -/
def unbox32 (v : Word) : BitVec 32 :=
  if v.extractLsb' 32 32 = 0xFFFFFFFF#32 then lo32 v else canonicalNanS

end Sys2Proof.Machine
end

