-- ==== Sys2Proof/Machine/Flags.lean ====
section
/-! DEFINITION. `fcsr`: the five sticky flags, the dynamic rounding mode, the effective rounding mode of an instruction
(spec/10_state.md rules R41 to R44; spec/45_fp_primitives.md rule R372). -/

namespace Sys2Proof.Machine

/-- A set of the five floating-point flags, laid out as `fcsr[4:0]` (spec/10_state.md rule R41). -/
abbrev Flags := BitVec 5

/-- No flag. -/
def Flags.none : Flags := 0b00000
/-- Inexact. -/
def Flags.nx : Flags := 0b00001
/-- Underflow. -/
def Flags.uf : Flags := 0b00010
/-- Overflow. -/
def Flags.of : Flags := 0b00100
/-- Divide by zero. -/
def Flags.dz : Flags := 0b01000
/-- Invalid operation. -/
def Flags.nv : Flags := 0b10000

/-- The flag set `fl` when `c` holds, else none. -/
def Flags.when (c : Bool) (fl : Flags) : Flags := if c then fl else Flags.none

/-- `fflags`: `fcsr[4:0]` (spec/10_state.md rule R41). -/
def fflagsOf (fcsr : BitVec 8) : BitVec 5 := fcsr.extractLsb' 0 5

/-- `frm`: `fcsr[7:5]` (spec/10_state.md rule R41). -/
def frmOf (fcsr : BitVec 8) : BitVec 3 := fcsr.extractLsb' 5 3

/-- `fflags |= fl` (spec/10_state.md rule R42): sets the named flags, clears none, leaves `frm`. -/
def State.raise (s : State) (fl : Flags) : State := { s with fcsr := s.fcsr ||| fl.setWidth 8 }

/-- The five rounding modes (spec/10_state.md rule R43). -/
inductive RoundingMode where
  /-- To nearest, ties to even. -/
  | rne
  /-- Toward zero. -/
  | rtz
  /-- Toward minus infinity. -/
  | rdn
  /-- Toward plus infinity. -/
  | rup
  /-- To nearest, ties to the larger magnitude. -/
  | rmm
  deriving DecidableEq, Repr

/-- The mode a 3-bit value names; 5, 6 and 7 name none (spec/10_state.md rule R43). -/
def RoundingMode.ofBits (b : BitVec 3) : Option RoundingMode :=
  match b with
  | 0 => some .rne
  | 1 => some .rtz
  | 2 => some .rdn
  | 3 => some .rup
  | 4 => some .rmm
  | _ => none

/-- `rm_eff` (spec/45_fp_primitives.md rule R372): field value 7 means `frm`. -/
def effectiveRm (fcsr : BitVec 8) (rm : BitVec 3) : Option RoundingMode :=
  RoundingMode.ofBits (if rm = 7 then frmOf fcsr else rm)

/-- `CsrRead` (spec/10_state.md rule R44); `none` is a CSR this block does not have. -/
def csrRead (fcsr : BitVec 8) (csr : BitVec 12) : Option Word :=
  match csr with
  | 0x001 => some (zext (fflagsOf fcsr))
  | 0x002 => some (zext (frmOf fcsr))
  | 0x003 => some (zext fcsr)
  | _ => none

/-- `CsrWrite` (spec/10_state.md rule R44): the field takes the low bits of `v`. -/
def csrWrite (fcsr : BitVec 8) (csr : BitVec 12) (v : Word) : BitVec 8 :=
  match csr with
  | 0x001 => frmOf fcsr ++ v.extractLsb' 0 5
  | 0x002 => v.extractLsb' 0 3 ++ fflagsOf fcsr
  | 0x003 => v.extractLsb' 0 8
  | _ => fcsr

end Sys2Proof.Machine
end

