-- ==== Sys2Proof/Machine/Ops.lean ====
section
/-! DEFINITION. The named operations every meaning is written over: registers, memory with its checks and monitors
(spec/20_memory.md, spec/49_atomics_monitor.md), halting and resuming (spec/60_exceptions.md), the shared shapes of
instructions. -/

namespace Sys2Proof.Machine

/-! ### Registers (spec/10_state.md rules R30, R31, R38, R40) -/

/-- `x[r]`: `x0` reads zero (rule R31). -/
def State.readX (s : State) (r : Reg) : Word := if r = 0 then 0 else s.x[r.toNat]'r.isLt

/-- The integer registers after `x[rd] <- v`: a write to `x0` is discarded (rule R31). -/
def setX (x : Vector Word 32) (rd : Reg) (v : Word) : Vector Word 32 := if rd = 0 then x else x.set rd.toNat v rd.isLt

/-- `x[rd] <- v`. -/
def State.writeX (s : State) (rd : Reg) (v : Word) : State := { s with x := setX s.x rd v }

/-- `f[r]`, raw (rule R40). -/
def State.readF (s : State) (r : Reg) : Word := s.f[r.toNat]'r.isLt

/-- `f[rd] <- v`, raw (rule R40). -/
def State.writeF (s : State) (rd : Reg) (v : Word) : State := { s with f := s.f.set rd.toNat v rd.isLt }

/-- A single-precision operand (rule R39). -/
def State.readS (s : State) (r : Reg) : BitVec 32 := unbox32 (s.readF r)

/-- A single-precision result (rule R39). -/
def State.writeS (s : State) (rd : Reg) (w : BitVec 32) : State := s.writeF rd (box32 w)

/-- `pc <- t`, an explicit pc write (rule R35). -/
def State.jump (s : State) (t : Word) : State := { s with pc := t, pcModified := true }

/-! ### Halting and resuming (spec/60_exceptions.md): the spec's only exception entry and return -/

/-- The code of a cause (rule R560). -/
def Cause.code : Cause → Nat
  | .reset => 0
  | .unimplementedInstruction => 1
  | .nullPageAccess => 2
  | .misalignedAccess => 3
  | .instructionAddressMisaligned => 4
  | .environmentCall => 5
  | .breakpoint => 6
  | .sentinel => 7
  | .breakpointHit => 8
  | .icountStop => 9

/-- A cause of class "fatal" (rule R560). -/
def Cause.fatal : Cause → Bool
  | .unimplementedInstruction | .nullPageAccess | .misalignedAccess | .instructionAddressMisaligned => true
  | _ => false

/-- A cause of class "environment" (rule R560): the instruction completed and is counted (rule R585). -/
def Cause.environment : Cause → Bool
  | .environmentCall | .breakpoint => true
  | _ => false

/-- `run <- Halted(cause, info)`: all that any halt does (rules R570, R571). -/
def State.halt (s : State) (cause : Cause) (info : Word) : State := { s with run := .halted cause info }

/-- An act of the environment on the hart in front, which it may do only while that hart is halted (rule R590,
spec/20_memory.md rule R107): of a Running hart, or where no hart is, it does nothing. -/
def State.whileHalted (act : State → State) (s : State) : State :=
  match s.run with
  | .running => s
  | .halted _ _ => if s.attached then act s else s

/-- `Resume(h, skip)`, the environment's act on a halted hart (rule R590); there is no trap-return instruction (rule R572). -/
def State.resume (skip : Bool) : State → State := State.whileHalted fun s => { s with run := .running, resumeSkip := skip }

/-- `raise Fatal(UnimplementedInstruction, zext_64(inst))` from the execution of `i` (rule R562 d, e); the fetched bits of a
decoded instruction are its encoding. -/
def unimplemented (i : Instr) (s : State) : Result := .next (s.halt .unimplementedInstruction (zext (encode i)))

/-! ### Bytes of memory (spec/20_memory.md rules R81, R83, R105) -/

/-- The byte at an address; an unlisted one is 0 (DESIGN CHOICE, unsafe: log entry 2). -/
def Memory.read : Memory → Nat → Byte
  | [], _ => 0
  | (k, b) :: m, a => if k = a then b else Memory.read m a

/-- Memory without the entry of `a`. -/
def Memory.drop : Memory → Nat → Memory
  | [], _ => []
  | (k, b) :: m, a => if k = a then Memory.drop m a else (k, b) :: Memory.drop m a

/-- A new entry in its place. -/
def Memory.place : Memory → Nat → Byte → Memory
  | [], a, v => [(a, v)]
  | (k, b) :: m, a, v => if a < k then (a, v) :: (k, b) :: m else (k, b) :: Memory.place m a v

/-- `mem[a] <- v`, in the canonical form: a zero byte is not listed. -/
def Memory.write (m : Memory) (a : Nat) (v : Byte) : Memory :=
  if v = 0 then Memory.drop m a else Memory.place (Memory.drop m a) a v

/-- Every address of `m` is above `a`, and they rise. -/
def Memory.risingFrom : Nat → Memory → Bool
  | _, [] => true
  | a, (k, _) :: m => decide (a < k) && Memory.risingFrom k m

/-- The addresses rise. -/
def Memory.rising : Memory → Bool
  | [] => true
  | (k, _) :: m => Memory.risingFrom k m

/-- The canonical form: addresses strictly rising and below 2^64, no entry a zero byte. -/
def Memory.wf (m : Memory) : Bool := Memory.rising m && m.all fun c => decide (c.1 < 2 ^ 64) && c.2 != 0

/-- The `n`-byte little-endian value at `a`, zero-extended; addresses are modulo 2^64 (rules R83, R105). -/
def Memory.readLE (m : Memory) (a : Word) : Nat → Word
  | 0 => 0
  | n + 1 => Memory.readLE m (a + 1) n <<< 8 ||| zext (Memory.read m a.toNat)

/-- The low `8 n` bits of `v` stored little-endian at `a` (rules R83, R105). -/
def Memory.writeLE (m : Memory) (a : Word) : Nat → Word → Memory
  | 0, _ => m
  | n + 1, v => Memory.writeLE (Memory.write m a.toNat (v.setWidth 8)) (a + 1) n (v >>> 8)

/-! ### The monitors (spec/49_atomics_monitor.md) -/

/-- `NotifyLoad` (rule R522). -/
def State.notifyLoad (s : State) : State := { s with lm := .open }

/-- `NotifyLoadLinked` (rule R524). -/
def State.notifyLoadLinked (s : State) (a : Word) (size : MonitorSize) : State := { s with lm := .rmw a size }

/-- What `NotifyStoreConditional` returns (rule R525). -/
def State.localMatch (s : State) (a : Word) (size : MonitorSize) : Bool := decide (s.lm = .rmw a size)

/-- What `NotifyStoreConditional` does (rule R525): in every case the Local Monitor opens (DESIGN CHOICE of the spec for a
mismatch, unsafe: log entry 9). -/
def State.notifyStoreConditional (s : State) : State := { s with lm := .open }

/-- `GlobalLoadLinked` (rule R528). -/
def State.globalLoadLinked (s : State) (a : Word) : State := { s with gm := { s.gm with state := .rmw, addr := a } }

/-- `granule(a)`: the low `log2(RESERVATION_GRANULE)` bits cleared (rule R533). -/
def granule (cfg : Config) (a : Word) : Word :=
  (a >>> Nat.log2 cfg.reservationGranule) <<< Nat.log2 cfg.reservationGranule

/-- A write of `n` bytes at `a` touches the granule of `b` (rule R533). -/
def touches (cfg : Config) (a : Word) (n : Nat) (b : Word) : Bool :=
  granule cfg b == granule cfg a || granule cfg b == granule cfg (a + BitVec.ofNat 64 n - 1)

/-- Another hart's record after a write of `n` bytes at `a` (rule R529). -/
def GmRecord.afterStore (cfg : Config) (a : Word) (n : Nat) (g : GmRecord) : GmRecord :=
  if g.state = .rmw ∧ touches cfg a n g.addr = true then { g with state := .open } else g

/-- Another hart after a write of `n` bytes at `a` (rule R529). -/
def Hart.afterStore (cfg : Config) (a : Word) (n : Nat) (h : Hart) : Hart := { h with gm := h.gm.afterStore cfg a n }

/-- `GlobalStore` (rule R529): the writer's own record is not changed. -/
def State.globalStore (s : State) (a : Word) (n : Nat) : State :=
  { s with harts := s.harts.map (Hart.afterStore s.cfg a n) }

/-- `NotifyStore` (rule R523). -/
def State.notifyStore (s : State) (a : Word) (n : Nat) : State := State.globalStore { s with lm := .open } a n

/-- What `GlobalStoreConditional` returns (rule R530; that it is deterministic is a DESIGN CHOICE of the spec, unsafe: log
entry 8). -/
def State.globalOk (s : State) (a : Word) : Bool :=
  decide (s.gm.state = .rmw) && s.gm.addr == a && decide (s.gm.failCount < s.cfg.scForcedFailPeriod)

/-- What `GlobalStoreConditional` does (rule R530): nothing when another hart interfered; a forced failure resets the count;
a success advances it and opens the other harts' records on the granule. -/
def State.globalStoreConditional (s : State) (a : Word) : State :=
  if s.gm.state = .rmw ∧ s.gm.addr = a then
    if s.cfg.scForcedFailPeriod ≤ s.gm.failCount then
      { s with gm := { s.gm with state := .open, failCount := 0 } }
    else
      State.globalStore { s with gm := { s.gm with state := .open, failCount := s.gm.failCount + 1 } } a 1
  else s

/-! ### Data accesses (spec/20_memory.md rules R86 to R92) -/

/-- The checks of an access of `n` bytes at `a`, null page first (rules R88, R90); an atomic access must be naturally aligned
always, an ordinary one when the configuration says so (rules R87, R91). -/
def State.accessCheck (s : State) (atomic : Bool) (a : Word) (n : Nat) : Option Cause :=
  if a.toNat < s.cfg.nullPageSize then some .nullPageAccess
  else if (atomic || s.cfg.requireAlignment) && decide (a.toNat % n ≠ 0) then some .misalignedAccess
  else none

/-- The byte at `a` is backed by storage (rule R81). -/
def State.backs (s : State) (a : Word) : Bool := s.allocated.any fun r => decide (r.1 ≤ a.toNat) && decide (a.toNat < r.2)

/-- The `n` bytes from `a` are backed by storage (rules R81, R105). -/
def State.backed (s : State) (a : Word) (n : Nat) : Bool := (List.range n).all fun i => s.backs (a + BitVec.ofNat 64 i)

/-- The value `MemRead(a, n)` returns once its checks pass (rule R88). -/
def State.load (s : State) (a : Word) (n : Nat) : Word := Memory.readLE s.mem a n

/-- `MemWrite(a, n, v)` once its checks pass (rule R89). -/
def State.store (s : State) (a : Word) (n : Nat) (v : Word) : State :=
  State.notifyStore { s with mem := Memory.writeLE s.mem a n v } a n

/-- The effective address `x[rs1] + imm` (spec/42_load_store_fence.md rule R270). -/
def State.ea (s : State) (rs1 : Reg) (imm : Word) : Word := s.readX rs1 + imm

/-- The checks of a data access, then what follows (rule R570: a failing check has no other effect). -/
def checked (atomic : Bool) (a : Word) (n : Nat) (go : State → Result) (s : State) : Result :=
  match s.accessCheck atomic a n with
  | some cause => .next (s.halt cause a)
  | none => go s

/-- An effect that reads or writes the `n` bytes from `a`: outside the allocated set the model is stuck (rule R81). -/
def onBacked (a : Word) (n : Nat) (effect : State → State) (s : State) : Result :=
  if s.backed a n then .next (effect s) else .fault (.unallocated a)

/-- An instruction that makes a data access: the checks, then its effect on backed bytes. -/
def access (atomic : Bool) (a : Word) (n : Nat) (effect : State → State) : State → Result :=
  checked atomic a n (onBacked a n effect)

/-- An ordinary load of `n` bytes into `x[rd]` (spec/42_load_store_fence.md rules R271, R272). -/
def loadX (n : Nat) (ext : Word → Word) (rd : Reg) (a : Word) (s : State) : Result :=
  access false a n (fun s => s.notifyLoad.writeX rd (ext (s.load a n))) s

/-- An ordinary load of `n` bytes into `f[rd]` (spec/46_fp_single.md rule R420, spec/47_fp_double.md rule R460). -/
def loadF (n : Nat) (ext : Word → Word) (rd : Reg) (a : Word) (s : State) : Result :=
  access false a n (fun s => s.notifyLoad.writeF rd (ext (s.load a n))) s

/-- An ordinary store of the low `8 n` bits of `v` (spec/42_load_store_fence.md rules R271, R272). -/
def storeV (n : Nat) (a : Word) (v : Word) (s : State) : Result :=
  access false a n (fun s => s.store a n v) s

/-- A load-linked of `n` bytes (spec/49_atomics_monitor.md rules R537, R538). -/
def loadLinked (n : Nat) (size : MonitorSize) (ext : Word → Word) (rd rs1 : Reg) (s : State) : Result :=
  access true (s.readX rs1) n (fun s =>
    let a := s.readX rs1
    ((s.notifyLoad.writeX rd (ext (s.load a n))).notifyLoadLinked a size).globalLoadLinked a) s

/-- A store-conditional of `n` bytes (spec/49_atomics_monitor.md rule R539); only one that succeeds touches memory. -/
def storeConditional (n : Nat) (size : MonitorSize) (rd rs2 rs1 : Reg) (s : State) : Result :=
  let a := s.readX rs1
  checked true a n (fun s =>
    let s1 := s.notifyStoreConditional
    if s.localMatch a size then
      if s.globalOk a then
        onBacked a n (fun s1 => ((s1.globalStoreConditional a).store a n (s.readX rs2)).writeX rd 0) s1
      else .next ((s1.globalStoreConditional a).writeX rd 1)
    else .next (s1.writeX rd 1)) s

/-- An AMO on words (spec/49_atomics_monitor.md rule R541). -/
def amoWord (op : BitVec 32 → BitVec 32 → BitVec 32) (rd rs2 rs1 : Reg) (s : State) : Result :=
  access true (s.readX rs1) 4 (fun s =>
    let a := s.readX rs1
    let t := lo32 (s.load a 4)
    (s.notifyLoad.store a 4 (zext (op t (lo32 (s.readX rs2))))).writeX rd (sext t)) s

/-- An AMO on doublewords (spec/49_atomics_monitor.md rule R541). -/
def amoDouble (op : Word → Word → Word) (rd rs2 rs1 : Reg) (s : State) : Result :=
  access true (s.readX rs1) 8 (fun s =>
    let a := s.readX rs1
    let t := s.load a 8
    (s.notifyLoad.store a 8 (op t (s.readX rs2))).writeX rd t) s

/-! ### The other shapes of instructions -/

/-- An instruction whose only effect is `x[rd] <- v`. -/
def setReg (rd : Reg) (v : Word) (s : State) : Result := .next (s.writeX rd v)

/-- A conditional branch (spec/41_control_transfer.md rule R250): not taken, it writes nothing. -/
def branch (taken : Bool) (offset : Word) (s : State) : Result :=
  .next (if taken then s.jump (s.pc + offset) else s)

/-- A jump with a link (spec/41_control_transfer.md rules R250, R252). -/
def jumpAndLink (rd : Reg) (target link : Word) (s : State) : Result := .next ((s.jump target).writeX rd link)

/-- A CSR instruction `i` (spec/43_csr_system.md rules R300, R301): `update` answers the value to write, or none to write
nothing. -/
def csrOp (i : Instr) (rd : Reg) (csr : BitVec 12) (update : Word → Option Word) (s : State) : Result :=
  match csrRead s.fcsr csr with
  | none => unimplemented i s
  | some t =>
    match update t with
    | none => .next (s.writeX rd t)
    | some v => .next (State.writeX { s with fcsr := csrWrite s.fcsr csr v } rd t)

/-- An instruction `i` with a rounding-mode field (spec/45_fp_primitives.md rule R372): a reserved effective mode halts it
before any effect. -/
def withRm (i : Instr) (rm : BitVec 3) (effect : RoundingMode → State) (s : State) : Result :=
  match effectiveRm s.fcsr rm with
  | none => unimplemented i s
  | some r => .next (effect r)

/-- A single-precision result with its flags (spec/46_fp_single.md rule R418). -/
def State.resultS (s : State) (rd : Reg) (r : BitVec 32 × Flags) : State := (s.writeS rd r.1).raise r.2

/-- A double-precision result with its flags (spec/47_fp_double.md rule R458). -/
def State.resultD (s : State) (rd : Reg) (r : Word × Flags) : State := (s.writeF rd r.1).raise r.2

/-- An integer result with its flags (spec/46_fp_single.md rule R418). -/
def State.resultX (s : State) (rd : Reg) (r : Word × Flags) : State := (s.writeX rd r.1).raise r.2

end Sys2Proof.Machine
end

