-- ==== Sys2Proof/Machine/Atomic.lean ====
section
/-! DEFINITION. LR, SC and the AMOs (spec/49_atomics_monitor.md). The address is `x[rs1]`; `aq` and `rl` are decoded and ignored (rule
R536); each is one indivisible step (rule R526). -/

namespace Sys2Proof.Machine

/-- LR.W, rule R537. -/
def execLrW (rd : Reg) (rs1 : Reg) (_aq : BitVec 1) (_rl : BitVec 1) (s : State) : Result :=
  loadLinked 4 .word (fun v => sext (lo32 v)) rd rs1 s

/-- LR.D, rule R538. -/
def execLrD (rd : Reg) (rs1 : Reg) (_aq : BitVec 1) (_rl : BitVec 1) (s : State) : Result :=
  loadLinked 8 .doubleword id rd rs1 s

/-- SC.W, rule R539. -/
def execScW (rd : Reg) (rs2 : Reg) (rs1 : Reg) (_aq : BitVec 1) (_rl : BitVec 1) (s : State) : Result :=
  storeConditional 4 .word rd rs2 rs1 s

/-- SC.D, rule R540. -/
def execScD (rd : Reg) (rs2 : Reg) (rs1 : Reg) (_aq : BitVec 1) (_rl : BitVec 1) (s : State) : Result :=
  storeConditional 8 .doubleword rd rs2 rs1 s

/-- AMOSWAP.W, rule R542. -/
def execAmoswapW (rd : Reg) (rs2 : Reg) (rs1 : Reg) (_aq : BitVec 1) (_rl : BitVec 1) (s : State) : Result :=
  amoWord (fun _ v => v) rd rs2 rs1 s

/-- AMOADD.W, rule R543. -/
def execAmoaddW (rd : Reg) (rs2 : Reg) (rs1 : Reg) (_aq : BitVec 1) (_rl : BitVec 1) (s : State) : Result :=
  amoWord (fun t v => t + v) rd rs2 rs1 s

/-- AMOXOR.W, rule R544. -/
def execAmoxorW (rd : Reg) (rs2 : Reg) (rs1 : Reg) (_aq : BitVec 1) (_rl : BitVec 1) (s : State) : Result :=
  amoWord (fun t v => t ^^^ v) rd rs2 rs1 s

/-- AMOAND.W, rule R545. -/
def execAmoandW (rd : Reg) (rs2 : Reg) (rs1 : Reg) (_aq : BitVec 1) (_rl : BitVec 1) (s : State) : Result :=
  amoWord (fun t v => t &&& v) rd rs2 rs1 s

/-- AMOOR.W, rule R546. -/
def execAmoorW (rd : Reg) (rs2 : Reg) (rs1 : Reg) (_aq : BitVec 1) (_rl : BitVec 1) (s : State) : Result :=
  amoWord (fun t v => t ||| v) rd rs2 rs1 s

/-- AMOMIN.W, rule R547. -/
def execAmominW (rd : Reg) (rs2 : Reg) (rs1 : Reg) (_aq : BitVec 1) (_rl : BitVec 1) (s : State) : Result :=
  amoWord (fun t v => if t.slt v then t else v) rd rs2 rs1 s

/-- AMOMAX.W, rule R548. -/
def execAmomaxW (rd : Reg) (rs2 : Reg) (rs1 : Reg) (_aq : BitVec 1) (_rl : BitVec 1) (s : State) : Result :=
  amoWord (fun t v => if v.slt t then t else v) rd rs2 rs1 s

/-- AMOMINU.W, rule R549. -/
def execAmominuW (rd : Reg) (rs2 : Reg) (rs1 : Reg) (_aq : BitVec 1) (_rl : BitVec 1) (s : State) : Result :=
  amoWord (fun t v => if t.ult v then t else v) rd rs2 rs1 s

/-- AMOMAXU.W, rule R550. -/
def execAmomaxuW (rd : Reg) (rs2 : Reg) (rs1 : Reg) (_aq : BitVec 1) (_rl : BitVec 1) (s : State) : Result :=
  amoWord (fun t v => if v.ult t then t else v) rd rs2 rs1 s

/-- AMOSWAP.D, rule R551. -/
def execAmoswapD (rd : Reg) (rs2 : Reg) (rs1 : Reg) (_aq : BitVec 1) (_rl : BitVec 1) (s : State) : Result :=
  amoDouble (fun _ v => v) rd rs2 rs1 s

/-- AMOADD.D, rule R552. -/
def execAmoaddD (rd : Reg) (rs2 : Reg) (rs1 : Reg) (_aq : BitVec 1) (_rl : BitVec 1) (s : State) : Result :=
  amoDouble (fun t v => t + v) rd rs2 rs1 s

/-- AMOXOR.D, rule R553. -/
def execAmoxorD (rd : Reg) (rs2 : Reg) (rs1 : Reg) (_aq : BitVec 1) (_rl : BitVec 1) (s : State) : Result :=
  amoDouble (fun t v => t ^^^ v) rd rs2 rs1 s

/-- AMOAND.D, rule R554. -/
def execAmoandD (rd : Reg) (rs2 : Reg) (rs1 : Reg) (_aq : BitVec 1) (_rl : BitVec 1) (s : State) : Result :=
  amoDouble (fun t v => t &&& v) rd rs2 rs1 s

/-- AMOOR.D, rule R555. -/
def execAmoorD (rd : Reg) (rs2 : Reg) (rs1 : Reg) (_aq : BitVec 1) (_rl : BitVec 1) (s : State) : Result :=
  amoDouble (fun t v => t ||| v) rd rs2 rs1 s

/-- AMOMIN.D, rule R556. -/
def execAmominD (rd : Reg) (rs2 : Reg) (rs1 : Reg) (_aq : BitVec 1) (_rl : BitVec 1) (s : State) : Result :=
  amoDouble (fun t v => if t.slt v then t else v) rd rs2 rs1 s

/-- AMOMAX.D, rule R557. -/
def execAmomaxD (rd : Reg) (rs2 : Reg) (rs1 : Reg) (_aq : BitVec 1) (_rl : BitVec 1) (s : State) : Result :=
  amoDouble (fun t v => if v.slt t then t else v) rd rs2 rs1 s

/-- AMOMINU.D, rule R558. -/
def execAmominuD (rd : Reg) (rs2 : Reg) (rs1 : Reg) (_aq : BitVec 1) (_rl : BitVec 1) (s : State) : Result :=
  amoDouble (fun t v => if t.ult v then t else v) rd rs2 rs1 s

/-- AMOMAXU.D, rule R559. -/
def execAmomaxuD (rd : Reg) (rs2 : Reg) (rs1 : Reg) (_aq : BitVec 1) (_rl : BitVec 1) (s : State) : Result :=
  amoDouble (fun t v => if v.ult t then t else v) rd rs2 rs1 s

end Sys2Proof.Machine
end

