-- ==== Sys2Proof/Machine/Compressed.lean ====
section
/-! DEFINITION. The compressed instructions (spec/44_compressed.md): each has the effect of its expansion, with `len = 2` (rule R320);
a hint runs as its expansion. -/

namespace Sys2Proof.Machine

/-- C.ADDI4SPN, rule R321. -/
def execCAddi4spn (rd : CReg) (nzuimm : BitVec 10) (s : State) : Result :=
  setReg (cReg rd) (s.readX sp + zext nzuimm) s

/-- C.FLD, rule R322. -/
def execCFld (rd : CReg) (rs1 : CReg) (uimm : BitVec 8) (s : State) : Result :=
  loadF 8 id (cReg rd) (s.ea (cReg rs1) (zext uimm)) s

/-- C.LW, rule R323. -/
def execCLw (rd : CReg) (rs1 : CReg) (uimm : BitVec 7) (s : State) : Result :=
  loadX 4 (fun v => sext (lo32 v)) (cReg rd) (s.ea (cReg rs1) (zext uimm)) s

/-- C.LD, rule R324. -/
def execCLd (rd : CReg) (rs1 : CReg) (uimm : BitVec 8) (s : State) : Result :=
  loadX 8 id (cReg rd) (s.ea (cReg rs1) (zext uimm)) s

/-- C.FSD, rule R325. -/
def execCFsd (rs2 : CReg) (rs1 : CReg) (uimm : BitVec 8) (s : State) : Result :=
  storeV 8 (s.ea (cReg rs1) (zext uimm)) (s.readF (cReg rs2)) s

/-- C.SW, rule R326. -/
def execCSw (rs2 : CReg) (rs1 : CReg) (uimm : BitVec 7) (s : State) : Result :=
  storeV 4 (s.ea (cReg rs1) (zext uimm)) (s.readX (cReg rs2)) s

/-- C.SD, rule R327. -/
def execCSd (rs2 : CReg) (rs1 : CReg) (uimm : BitVec 8) (s : State) : Result :=
  storeV 8 (s.ea (cReg rs1) (zext uimm)) (s.readX (cReg rs2)) s

/-- C.NOP, rule R328. -/
def execCNop (_imm : BitVec 6) (s : State) : Result :=
  .next s

/-- C.ADDI, rule R329. -/
def execCAddi (rd : Reg) (imm : BitVec 6) (s : State) : Result :=
  setReg rd (s.readX rd + sext imm) s

/-- C.ADDIW, rule R330. -/
def execCAddiw (rd : Reg) (imm : BitVec 6) (s : State) : Result :=
  setReg rd (sext (lo32 (s.readX rd + sext imm))) s

/-- C.LI, rule R331. -/
def execCLi (rd : Reg) (imm : BitVec 6) (s : State) : Result :=
  setReg rd (sext imm) s

/-- C.ADDI16SP, rule R332. -/
def execCAddi16sp (nzimm : BitVec 10) (s : State) : Result :=
  setReg sp (s.readX sp + sext nzimm) s

/-- C.LUI, rule R333. -/
def execCLui (rd : Reg) (nzimm : BitVec 6) (s : State) : Result :=
  setReg rd (immUpper6 nzimm) s

/-- C.SRLI, rule R334. -/
def execCSrli (rd : CReg) (shamt : BitVec 6) (s : State) : Result :=
  setReg (cReg rd) (s.readX (cReg rd) >>> shamt.toNat) s

/-- C.SRAI, rule R335. -/
def execCSrai (rd : CReg) (shamt : BitVec 6) (s : State) : Result :=
  setReg (cReg rd) ((s.readX (cReg rd)).sshiftRight shamt.toNat) s

/-- C.ANDI, rule R336. -/
def execCAndi (rd : CReg) (imm : BitVec 6) (s : State) : Result :=
  setReg (cReg rd) (s.readX (cReg rd) &&& sext imm) s

/-- C.SUB, rule R337. -/
def execCSub (rd : CReg) (rs2 : CReg) (s : State) : Result :=
  setReg (cReg rd) (s.readX (cReg rd) - s.readX (cReg rs2)) s

/-- C.XOR, rule R338. -/
def execCXor (rd : CReg) (rs2 : CReg) (s : State) : Result :=
  setReg (cReg rd) (s.readX (cReg rd) ^^^ s.readX (cReg rs2)) s

/-- C.OR, rule R339. -/
def execCOr (rd : CReg) (rs2 : CReg) (s : State) : Result :=
  setReg (cReg rd) (s.readX (cReg rd) ||| s.readX (cReg rs2)) s

/-- C.AND, rule R340. -/
def execCAnd (rd : CReg) (rs2 : CReg) (s : State) : Result :=
  setReg (cReg rd) (s.readX (cReg rd) &&& s.readX (cReg rs2)) s

/-- C.SUBW, rule R341. -/
def execCSubw (rd : CReg) (rs2 : CReg) (s : State) : Result :=
  setReg (cReg rd) (sext (lo32 (s.readX (cReg rd) - s.readX (cReg rs2)))) s

/-- C.ADDW, rule R342. -/
def execCAddw (rd : CReg) (rs2 : CReg) (s : State) : Result :=
  setReg (cReg rd) (sext (lo32 (s.readX (cReg rd) + s.readX (cReg rs2)))) s

/-- C.J, rule R343. -/
def execCJ (offset : BitVec 12) (s : State) : Result :=
  .next (s.jump (s.pc + sext offset))

/-- C.BEQZ, rule R344. -/
def execCBeqz (rs1 : CReg) (offset : BitVec 9) (s : State) : Result :=
  branch (s.readX (cReg rs1) == 0) (sext offset) s

/-- C.BNEZ, rule R345. -/
def execCBnez (rs1 : CReg) (offset : BitVec 9) (s : State) : Result :=
  branch (s.readX (cReg rs1) != 0) (sext offset) s

/-- C.SLLI, rule R346. -/
def execCSlli (rd : Reg) (shamt : BitVec 6) (s : State) : Result :=
  setReg rd (s.readX rd <<< shamt.toNat) s

/-- C.FLDSP, rule R347. -/
def execCFldsp (rd : Reg) (uimm : BitVec 9) (s : State) : Result :=
  loadF 8 id rd (s.ea sp (zext uimm)) s

/-- C.LWSP, rule R348. -/
def execCLwsp (rd : Reg) (uimm : BitVec 8) (s : State) : Result :=
  loadX 4 (fun v => sext (lo32 v)) rd (s.ea sp (zext uimm)) s

/-- C.LDSP, rule R349. -/
def execCLdsp (rd : Reg) (uimm : BitVec 9) (s : State) : Result :=
  loadX 8 id rd (s.ea sp (zext uimm)) s

/-- C.JR, rule R350. -/
def execCJr (rs1 : Reg) (s : State) : Result :=
  .next (s.jump (clearBit0 (s.readX rs1)))

/-- C.MV, rule R351. -/
def execCMv (rd : Reg) (rs2 : Reg) (s : State) : Result :=
  setReg rd (s.readX rs2) s

/-- C.EBREAK, rule R352. -/
def execCEbreak (s : State) : Result :=
  .next (s.halt .breakpoint s.pc)

/-- C.JALR, rule R353. -/
def execCJalr (rs1 : Reg) (s : State) : Result :=
  jumpAndLink ra (clearBit0 (s.readX rs1)) (s.pc + 2) s

/-- C.ADD, rule R354. -/
def execCAdd (rd : Reg) (rs2 : Reg) (s : State) : Result :=
  setReg rd (s.readX rd + s.readX rs2) s

/-- C.FSDSP, rule R355. -/
def execCFsdsp (rs2 : Reg) (uimm : BitVec 9) (s : State) : Result :=
  storeV 8 (s.ea sp (zext uimm)) (s.readF rs2) s

/-- C.SWSP, rule R356. -/
def execCSwsp (rs2 : Reg) (uimm : BitVec 8) (s : State) : Result :=
  storeV 4 (s.ea sp (zext uimm)) (s.readX rs2) s

/-- C.SDSP, rule R357. -/
def execCSdsp (rs2 : Reg) (uimm : BitVec 9) (s : State) : Result :=
  storeV 8 (s.ea sp (zext uimm)) (s.readX rs2) s

end Sys2Proof.Machine
end

