-- ==== Sys2Proof/Machine/Control.lean ====
section
/-! DEFINITION. Jumps and conditional branches (spec/41_control_transfer.md). Targets are relative to the instruction's own `pc`; there
are no delay slots (rule R250). -/

namespace Sys2Proof.Machine

/-- JAL, rule R253. -/
def execJal (rd : Reg) (offset : BitVec 21) (s : State) : Result :=
  jumpAndLink rd (s.pc + sext offset) (s.pc + 4) s

/-- JALR, rule R254. -/
def execJalr (rd : Reg) (rs1 : Reg) (imm : BitVec 12) (s : State) : Result :=
  jumpAndLink rd (clearBit0 (s.readX rs1 + sext imm)) (s.pc + 4) s

/-- BEQ, rule R255. -/
def execBeq (rs1 : Reg) (rs2 : Reg) (offset : BitVec 13) (s : State) : Result :=
  branch (s.readX rs1 == s.readX rs2) (sext offset) s

/-- BNE, rule R256. -/
def execBne (rs1 : Reg) (rs2 : Reg) (offset : BitVec 13) (s : State) : Result :=
  branch (s.readX rs1 != s.readX rs2) (sext offset) s

/-- BLT, rule R257. -/
def execBlt (rs1 : Reg) (rs2 : Reg) (offset : BitVec 13) (s : State) : Result :=
  branch ((s.readX rs1).slt (s.readX rs2)) (sext offset) s

/-- BGE, rule R258. -/
def execBge (rs1 : Reg) (rs2 : Reg) (offset : BitVec 13) (s : State) : Result :=
  branch (!(s.readX rs1).slt (s.readX rs2)) (sext offset) s

/-- BLTU, rule R259. -/
def execBltu (rs1 : Reg) (rs2 : Reg) (offset : BitVec 13) (s : State) : Result :=
  branch ((s.readX rs1).ult (s.readX rs2)) (sext offset) s

/-- BGEU, rule R260. -/
def execBgeu (rs1 : Reg) (rs2 : Reg) (offset : BitVec 13) (s : State) : Result :=
  branch (!(s.readX rs1).ult (s.readX rs2)) (sext offset) s

end Sys2Proof.Machine
end

