-- ==== Sys2Proof/Machine/Csr.lean ====
section
/-! DEFINITION. The CSR instructions, ECALL and EBREAK (spec/43_csr_system.md). ECALL and EBREAK halt with an environment cause: the
spec's only trap (rules R308, R309); the step counts them (spec/60_exceptions.md rule R585). -/

namespace Sys2Proof.Machine

/-- CSRRW, rule R302. -/
def execCsrrw (rd : Reg) (csr : BitVec 12) (rs1 : Reg) (s : State) : Result :=
  csrOp (.csrrw rd csr rs1) rd csr (fun _ => some (s.readX rs1)) s

/-- CSRRS, rule R303. -/
def execCsrrs (rd : Reg) (csr : BitVec 12) (rs1 : Reg) (s : State) : Result :=
  csrOp (.csrrs rd csr rs1) rd csr (fun t => if rs1 = 0 then none else some (t ||| s.readX rs1)) s

/-- CSRRC, rule R304. -/
def execCsrrc (rd : Reg) (csr : BitVec 12) (rs1 : Reg) (s : State) : Result :=
  csrOp (.csrrc rd csr rs1) rd csr (fun t => if rs1 = 0 then none else some (t &&& ~~~s.readX rs1)) s

/-- CSRRWI, rule R305. -/
def execCsrrwi (rd : Reg) (csr : BitVec 12) (uimm : BitVec 5) (s : State) : Result :=
  csrOp (.csrrwi rd csr uimm) rd csr (fun _ => some (zext uimm)) s

/-- CSRRSI, rule R306. -/
def execCsrrsi (rd : Reg) (csr : BitVec 12) (uimm : BitVec 5) (s : State) : Result :=
  csrOp (.csrrsi rd csr uimm) rd csr (fun t => if uimm = 0 then none else some (t ||| zext uimm)) s

/-- CSRRCI, rule R307. -/
def execCsrrci (rd : Reg) (csr : BitVec 12) (uimm : BitVec 5) (s : State) : Result :=
  csrOp (.csrrci rd csr uimm) rd csr (fun t => if uimm = 0 then none else some (t &&& ~~~zext uimm)) s

/-- ECALL, rule R308. -/
def execEcall (s : State) : Result :=
  .next (s.halt .environmentCall s.pc)

/-- EBREAK, rule R309. -/
def execEbreak (s : State) : Result :=
  .next (s.halt .breakpoint s.pc)

end Sys2Proof.Machine
end

