-- ==== Sys2Proof/Machine/FpFormat.lean ====
section
/-! DEFINITION. Floating-point formats, the datum a pattern denotes, exact real values (spec/45_fp_primitives.md rules R370,
R371, R376). -/

namespace Sys2Proof.Machine

/-- The two formats (rule R370). -/
inductive Fmt where
  /-- binary32. -/
  | s
  /-- binary64. -/
  | d
  deriving DecidableEq, Repr

/-- Exponent bits `E`. -/
def Fmt.expBits : Fmt → Nat
  | .s => 8
  | .d => 11

/-- Fraction bits `M`. -/
def Fmt.fracBits : Fmt → Nat
  | .s => 23
  | .d => 52

/-- Bits of a pattern, `1 + E + M`. -/
abbrev Fmt.width : Fmt → Nat
  | .s => 32
  | .d => 64

/-- `bias = 2^(E-1) - 1`. -/
def Fmt.bias (F : Fmt) : Nat := 2 ^ (F.expBits - 1) - 1

/-- `emin = 1 - bias`. -/
def Fmt.emin (F : Fmt) : Int := 1 - F.bias

/-- `emax = bias`. -/
def Fmt.emax (F : Fmt) : Int := F.bias

/-- A pattern of a format. -/
abbrev Fmt.Pattern (F : Fmt) := BitVec F.width

/-- The sign bit. -/
def Fmt.sign (F : Fmt) (a : F.Pattern) : Bool := a.msb

/-- The biased exponent field. -/
def Fmt.expField (F : Fmt) (a : F.Pattern) : Nat := a.toNat / 2 ^ F.fracBits % 2 ^ F.expBits

/-- The fraction field. -/
def Fmt.frac (F : Fmt) (a : F.Pattern) : Nat := a.toNat % 2 ^ F.fracBits

/-- The largest biased exponent, of infinities and NaNs. -/
def Fmt.expMax (F : Fmt) : Nat := 2 ^ F.expBits - 1

/-- The pattern of a sign, an exponent field and a fraction field; the exponent may be given as 0 with the fraction running
on into its bits. -/
def Fmt.mk (F : Fmt) (sign : Bool) (exp frac : Nat) : F.Pattern :=
  BitVec.ofNat F.width ((if sign then 2 ^ (F.expBits + F.fracBits) else 0) + exp * 2 ^ F.fracBits + frac)

def Fmt.isNan (F : Fmt) (a : F.Pattern) : Bool := F.expField a == F.expMax && F.frac a != 0
/-- Quiet: the top fraction bit is 1 (rule R371). -/
def Fmt.isQnan (F : Fmt) (a : F.Pattern) : Bool := F.isNan a && decide (2 ^ (F.fracBits - 1) ≤ F.frac a)
/-- Signaling: the top fraction bit is 0 (rule R371). -/
def Fmt.isSnan (F : Fmt) (a : F.Pattern) : Bool := F.isNan a && decide (F.frac a < 2 ^ (F.fracBits - 1))
def Fmt.isInf (F : Fmt) (a : F.Pattern) : Bool := F.expField a == F.expMax && F.frac a == 0
def Fmt.isZero (F : Fmt) (a : F.Pattern) : Bool := F.expField a == 0 && F.frac a == 0
def Fmt.isSubnormal (F : Fmt) (a : F.Pattern) : Bool := F.expField a == 0 && F.frac a != 0

/-- The canonical quiet NaN (rule R376; DESIGN CHOICE of the spec, unsafe: log entry 10). -/
def Fmt.cNaN (F : Fmt) : F.Pattern := F.mk false F.expMax (2 ^ (F.fracBits - 1))

/-- The infinity of a sign. -/
def Fmt.inf (F : Fmt) (sign : Bool) : F.Pattern := F.mk sign F.expMax 0

/-- The zero of a sign. -/
def Fmt.zero (F : Fmt) (sign : Bool) : F.Pattern := F.mk sign 0 0

/-- The largest finite number of a sign (rule R378). -/
def Fmt.maxFinite (F : Fmt) (sign : Bool) : F.Pattern := F.mk sign (F.expMax - 1) (2 ^ F.fracBits - 1)

/-! ### Exact reals -/

/-- An exact rational `num / den`, `den` not zero; not reduced. -/
structure Exact where
  num : Int
  den : Nat
  deriving DecidableEq, Repr

/-- `m * 2^k`. -/
def Exact.scale (m : Int) (k : Int) : Exact := ⟨m * 2 ^ k.toNat, 2 ^ (-k).toNat⟩

def Exact.ofInt (n : Int) : Exact := ⟨n, 1⟩
def Exact.neg (x : Exact) : Exact := ⟨-x.num, x.den⟩
def Exact.add (x y : Exact) : Exact := ⟨x.num * y.den + y.num * x.den, x.den * y.den⟩
def Exact.mul (x y : Exact) : Exact := ⟨x.num * y.num, x.den * y.den⟩
/-- `x / y`, for `y` not zero. -/
def Exact.div (x y : Exact) : Exact := ⟨x.num * y.den * y.num.sign, x.den * y.num.natAbs⟩
def Exact.lt (x y : Exact) : Bool := decide (x.num * y.den < y.num * x.den)

/-- The integer significand of a finite pattern: the fraction, with the leading 1 of a normal number. -/
def Fmt.significand (F : Fmt) (a : F.Pattern) : Nat := if F.expField a = 0 then F.frac a else 2 ^ F.fracBits + F.frac a

/-- The weight of the last bit of a finite pattern, as a power of two: `emin - M` for a subnormal number, else
`e - bias - M`. -/
def Fmt.exponent (F : Fmt) (a : F.Pattern) : Int :=
  (if F.expField a = 0 then F.emin else (F.expField a : Int) - F.bias) - F.fracBits

/-- The value of a finite pattern (rule R370). -/
def Fmt.value (F : Fmt) (a : F.Pattern) : Exact :=
  Exact.scale (if F.sign a then -(F.significand a : Int) else F.significand a) (F.exponent a)

end Sys2Proof.Machine
end

