-- ==== Sys2Proof/Machine/FpRound.lean ====
section
/-! DEFINITION. Rounding: to an integer, to a format, and the two readings of `FP_ARITH_MODE` (spec/45_fp_primitives.md rules
R374, R375, R377, R378, R379). -/

namespace Sys2Proof.Machine

/-- `rint'` on the magnitude `n / d` of a number of sign `neg`: RDN and RUP are exchanged for a negative one (rules R374,
R377). -/
def rintMag (rm : RoundingMode) (neg : Bool) (n d : Nat) : Nat :=
  let q := n / d
  let r := n % d
  match rm with
  | .rne => if d < 2 * r ∨ (2 * r = d ∧ q % 2 = 1) then q + 1 else q
  | .rtz => q
  | .rdn => if neg ∧ r ≠ 0 then q + 1 else q
  | .rup => if !neg ∧ r ≠ 0 then q + 1 else q
  | .rmm => if d ≤ 2 * r then q + 1 else q

/-- `rint(rm, x)` (rule R374). -/
def rint (rm : RoundingMode) (x : Exact) : Int :=
  let neg := decide (x.num < 0)
  let m := rintMag rm neg x.num.natAbs x.den
  if neg then -(m : Int) else m

/-- `floor(log2(n / d))` for positive `n` and `d`. -/
def floorLog2 (n d : Nat) : Int :=
  let k : Int := (Nat.log2 n : Int) - Nat.log2 d
  if n * 2 ^ (-k).toNat < d * 2 ^ k.toNat then k - 1 else k

/-- `a / 2^q` rounded to an integer, for the magnitude `a = n / d` of a number of sign `neg`. -/
def quantize (rm : RoundingMode) (neg : Bool) (n d : Nat) (q : Int) : Nat :=
  rintMag rm neg (n * 2 ^ (-q).toNat) (d * 2 ^ q.toNat)

/-- `a / 2^q` is no integer, for `a = n / d`: rounding it is inexact. -/
def inexactAt (n d : Nat) (q : Int) : Bool := n * 2 ^ (-q).toNat % (d * 2 ^ q.toNat) != 0

/-- `2^k ≤ m * 2^q`: the leading 1 of `m * 2^q` is at or above `2^k`. -/
def reaches (m : Nat) (q k : Int) : Bool := m != 0 && decide (k ≤ q + Nat.log2 m)

/-- The result of an overflow (rule R378). -/
def overflowResult (F : Fmt) (rm : RoundingMode) (neg : Bool) : F.Pattern :=
  match rm, neg with
  | .rne, _ => F.inf neg
  | .rmm, _ => F.inf neg
  | .rtz, _ => F.maxFinite neg
  | .rdn, true => F.inf true
  | .rdn, false => F.maxFinite false
  | .rup, true => F.maxFinite true
  | .rup, false => F.inf false

/-- `round_F(rm, x)` for `x` not zero (rule R377). With `v = m * 2^q` delivered, the pattern's exponent and fraction fields
are `(q - (emin - M)) * 2^M + m`: for `v < 2^emin` the exponent part is 0 and `m` the fraction; otherwise `m` carries its
leading 1 into the exponent field. -/
def roundF (F : Fmt) (rm : RoundingMode) (x : Exact) : F.Pattern × Flags :=
  let neg := decide (x.num < 0)
  let n := x.num.natAbs
  let d := x.den
  let M : Int := F.fracBits
  let e := floorLog2 n d
  let q := max e F.emin - M
  let m := quantize rm neg n d q
  let nx := inexactAt n d q
  if reaches m q (F.emax + 1) then (overflowResult F rm neg, Flags.of ||| Flags.nx)
  else
    let tiny := !reaches (quantize rm neg n d (e - M)) (e - M) F.emin
    (F.mk neg (q - (F.emin - M)).toNat m, Flags.when (tiny && nx) Flags.uf ||| Flags.when nx Flags.nx)

/-- `arith_round_F(rm, x)` for `x` not zero (rule R375). -/
def arithRound (F : Fmt) (mode : FpArithMode) (rm : RoundingMode) (x : Exact) : F.Pattern × Flags :=
  match mode with
  | .ieeeFull => roundF F rm x
  | .hostRne => ((roundF F .rne x).1, Flags.none)

/-- The sign of an exact zero sum of terms of different signs: minus under RDN; HOST_RNE rounds with RNE (rules R380,
R384; for the fused operation DEDUCED, unsafe: log entry 12). -/
def cancelSign (mode : FpArithMode) (rm : RoundingMode) : Bool :=
  match mode with
  | .ieeeFull => decide (rm = .rdn)
  | .hostRne => false

/-- An exact sum that may be zero. -/
def roundSum (F : Fmt) (mode : FpArithMode) (rm : RoundingMode) (x : Exact) : F.Pattern × Flags :=
  if x.num = 0 then (F.zero (cancelSign mode rm), Flags.none) else arithRound F mode rm x

/-! ### Square roots -/

/-- The bits of the integer square root of `n` from bit `k - 1` down, above the bits already in `r`. -/
def isqrtFrom (n : Nat) : Nat → Nat → Nat
  | 0, r => r
  | k + 1, r => isqrtFrom n k (if (r + 2 ^ k) * (r + 2 ^ k) ≤ n then r + 2 ^ k else r)

/-- The integer square root. -/
def isqrt (n : Nat) : Nat := isqrtFrom n (Nat.log2 n / 2 + 1) 0

/-- A number that every rounding of rule R377 rounds as it rounds the square root of `m * 2^k` (`m` positive): the root to
more than `M + 4` bits, with half a unit of the last one added when it is not exact. -/
def sqrtExact (F : Fmt) (m : Nat) (k : Int) : Exact :=
  let t : Nat := 2 * (F.fracBits + 4)
  let j : Nat := if (k - t) % 2 = 0 then t else t + 1
  let n := m * 2 ^ j
  let q := isqrt n
  Exact.scale (2 * q + if q * q = n then 0 else 1) ((k - j) / 2 - 1)

end Sys2Proof.Machine
end

