-- ==== Sys2Proof/Machine/FpPrimitives.lean ====
section
/-! DEFINITION. The floating-point primitives: pure functions from patterns to a result and the flags it raises
(spec/45_fp_primitives.md rules R380 to R395). -/

namespace Sys2Proof.Machine

/-- NV iff one of the operands is a signaling NaN. -/
def snanFlag2 (F : Fmt) (a b : F.Pattern) : Flags := Flags.when (F.isSnan a || F.isSnan b) Flags.nv

/-- The pattern with its sign bit inverted. -/
def Fmt.negate (F : Fmt) (a : F.Pattern) : F.Pattern := a ^^^ F.mk true 0 0

/-- `fadd_F` (rule R380). -/
def fadd (F : Fmt) (mode : FpArithMode) (rm : RoundingMode) (a b : F.Pattern) : F.Pattern × Flags :=
  if F.isNan a || F.isNan b then (F.cNaN, snanFlag2 F a b)
  else if F.isInf a && F.isInf b && F.sign a != F.sign b then (F.cNaN, Flags.nv)
  else if F.isInf a then (F.inf (F.sign a), Flags.none)
  else if F.isInf b then (F.inf (F.sign b), Flags.none)
  else if F.isZero a && F.isZero b then
    (F.zero (if F.sign a = F.sign b then F.sign a else cancelSign mode rm), Flags.none)
  else roundSum F mode rm (Exact.add (F.value a) (F.value b))

/-- `fsub_F` (rule R380). -/
def fsub (F : Fmt) (mode : FpArithMode) (rm : RoundingMode) (a b : F.Pattern) : F.Pattern × Flags :=
  fadd F mode rm a (F.negate b)

/-- `fmul_F` (rule R381). -/
def fmul (F : Fmt) (mode : FpArithMode) (rm : RoundingMode) (a b : F.Pattern) : F.Pattern × Flags :=
  let s := F.sign a ^^ F.sign b
  if F.isNan a || F.isNan b then (F.cNaN, snanFlag2 F a b)
  else if F.isZero a && F.isInf b || F.isInf a && F.isZero b then (F.cNaN, Flags.nv)
  else if F.isInf a || F.isInf b then (F.inf s, Flags.none)
  else if F.isZero a || F.isZero b then (F.zero s, Flags.none)
  else arithRound F mode rm (Exact.mul (F.value a) (F.value b))

/-- `fdiv_F` (rule R382). -/
def fdiv (F : Fmt) (mode : FpArithMode) (rm : RoundingMode) (a b : F.Pattern) : F.Pattern × Flags :=
  let s := F.sign a ^^ F.sign b
  if F.isNan a || F.isNan b then (F.cNaN, snanFlag2 F a b)
  else if F.isInf a && F.isInf b || F.isZero a && F.isZero b then (F.cNaN, Flags.nv)
  else if F.isInf a then (F.inf s, Flags.none)
  else if F.isInf b then (F.zero s, Flags.none)
  else if F.isZero b then (F.inf s, Flags.dz)
  else if F.isZero a then (F.zero s, Flags.none)
  else arithRound F mode rm (Exact.div (F.value a) (F.value b))

/-- `fsqrt_F` (rule R383). -/
def fsqrt (F : Fmt) (mode : FpArithMode) (rm : RoundingMode) (a : F.Pattern) : F.Pattern × Flags :=
  if F.isNan a then (F.cNaN, Flags.when (F.isSnan a) Flags.nv)
  else if F.isZero a then (a, Flags.none)
  else if F.sign a then (F.cNaN, Flags.nv)
  else if F.isInf a then (a, Flags.none)
  else arithRound F mode rm (sqrtExact F (F.significand a) (F.exponent a))

/-- `fma_F` (rule R384): the product and the addend, each negated when asked, summed with one rounding. -/
def fma (F : Fmt) (mode : FpArithMode) (rm : RoundingMode) (a b c : F.Pattern) (negp negc : Bool) : F.Pattern × Flags :=
  let snan := F.isSnan a || F.isSnan b || F.isSnan c
  let sp := (F.sign a ^^ F.sign b) ^^ negp
  let sc := F.sign c ^^ negc
  if F.isZero a && F.isInf b || F.isInf a && F.isZero b then (F.cNaN, Flags.nv)
  else if F.isNan a || F.isNan b || F.isNan c then (F.cNaN, Flags.when snan Flags.nv)
  else if F.isInf a || F.isInf b then
    if F.isInf c && sp != sc then (F.cNaN, Flags.nv) else (F.inf sp, Flags.none)
  else if F.isInf c then (F.inf sc, Flags.none)
  else if (F.isZero a || F.isZero b) && F.isZero c then
    (F.zero (if sp = sc then sp else cancelSign mode rm), Flags.none)
  else
    let p := Exact.mul (F.value a) (F.value b)
    roundSum F mode rm
      (Exact.add (if negp then Exact.neg p else p) (if negc then Exact.neg (F.value c) else F.value c))

/-- The least integer of `N` bits (rule R386). -/
def intMin (N : Nat) (signed : Bool) : Int := if signed then -2 ^ (N - 1) else 0

/-- The largest integer of `N` bits (rule R386). -/
def intMax (N : Nat) (signed : Bool) : Int := if signed then 2 ^ (N - 1) - 1 else 2 ^ N - 1

/-- `f2i(F, rm, a, N, signed)` (rule R386; OF beside NV is a DESIGN CHOICE of the spec, unsafe: log entry 11). -/
def f2i (F : Fmt) (rm : RoundingMode) (a : F.Pattern) (N : Nat) (signed : Bool) : BitVec N × Flags :=
  let lo := intMin N signed
  let hi := intMax N signed
  if F.isNan a || F.isInf a && !F.sign a then (BitVec.ofInt N hi, Flags.nv)
  else if F.isInf a then (BitVec.ofInt N lo, Flags.nv)
  else
    let x := F.value a
    let r := rint rm x
    if hi < r then (BitVec.ofInt N hi, Flags.nv ||| Flags.of)
    else if r < lo then (BitVec.ofInt N lo, Flags.nv ||| Flags.of)
    else (BitVec.ofInt N r, Flags.when (decide (r * x.den ≠ x.num)) Flags.nx)

/-- `i2f_F(rm, n)` (rule R387). -/
def i2f (F : Fmt) (mode : FpArithMode) (rm : RoundingMode) (n : Int) : F.Pattern × Flags :=
  if n = 0 then (F.zero false, Flags.none) else arithRound F mode rm (Exact.ofInt n)

/-- `f2f_DtoS(rm, a)` (rule R388). -/
def f2fDtoS (mode : FpArithMode) (rm : RoundingMode) (a : Fmt.d.Pattern) : Fmt.s.Pattern × Flags :=
  if Fmt.d.isNan a then (Fmt.s.cNaN, Flags.when (Fmt.d.isSnan a) Flags.nv)
  else if Fmt.d.isInf a then (Fmt.s.inf (Fmt.d.sign a), Flags.none)
  else if Fmt.d.isZero a then (Fmt.s.zero (Fmt.d.sign a), Flags.none)
  else arithRound .s mode rm (Fmt.d.value a)

/-- `f2f_StoD(a)` (rule R388): a finite value is re-encoded exactly, so the mode of the rounding does not matter. -/
def f2fStoD (a : Fmt.s.Pattern) : Fmt.d.Pattern × Flags :=
  if Fmt.s.isNan a then (Fmt.d.cNaN, Flags.when (Fmt.s.isSnan a) Flags.nv)
  else if Fmt.s.isInf a then (Fmt.d.inf (Fmt.s.sign a), Flags.none)
  else if Fmt.s.isZero a then (Fmt.d.zero (Fmt.s.sign a), Flags.none)
  else ((roundF .d .rne (Fmt.s.value a)).1, Flags.none)

/-- `value(a) < value(b)` for patterns that are no NaN (rule R390): minus infinity, then the finite values, then plus
infinity. -/
def Fmt.valueLt (F : Fmt) (a b : F.Pattern) : Bool :=
  if F.isInf a then F.sign a && !(F.isInf b && F.sign b)
  else if F.isInf b then !F.sign b
  else Exact.lt (F.value a) (F.value b)

/-- The values of two patterns that are no NaN are equal, with `+0 = -0` (rule R389). -/
def Fmt.valueEq (F : Fmt) (a b : F.Pattern) : Bool := !F.valueLt a b && !F.valueLt b a

/-- `feq_F` (rule R389). -/
def feq (F : Fmt) (a b : F.Pattern) : Bool × Flags :=
  (!(F.isNan a || F.isNan b) && F.valueEq a b, snanFlag2 F a b)

/-- `flt_F` (rule R390). -/
def flt (F : Fmt) (a b : F.Pattern) : Bool × Flags :=
  if F.isNan a || F.isNan b then (false, Flags.nv) else (F.valueLt a b, Flags.none)

/-- `fle_F` (rule R391). -/
def fle (F : Fmt) (a b : F.Pattern) : Bool × Flags :=
  if F.isNan a || F.isNan b then (false, Flags.nv) else (!F.valueLt b a, Flags.none)

/-- `fne_F` (rule R392): no scalar instruction uses it. -/
def fne (F : Fmt) (a b : F.Pattern) : Bool × Flags :=
  (F.isNan a || F.isNan b || !F.valueEq a b, snanFlag2 F a b)

/-- `fmin_F` (rule R393). -/
def fmin (F : Fmt) (a b : F.Pattern) : F.Pattern × Flags :=
  let fl := snanFlag2 F a b
  if F.isNan a && F.isNan b then (F.cNaN, fl)
  else if F.isNan a then (b, fl)
  else if F.isNan b then (a, fl)
  else if F.isZero a && F.isZero b && F.sign a != F.sign b then (F.zero true, fl)
  else if F.valueLt b a then (b, fl) else (a, fl)

/-- `fmax_F` (rule R393). -/
def fmax (F : Fmt) (a b : F.Pattern) : F.Pattern × Flags :=
  let fl := snanFlag2 F a b
  if F.isNan a && F.isNan b then (F.cNaN, fl)
  else if F.isNan a then (b, fl)
  else if F.isNan b then (a, fl)
  else if F.isZero a && F.isZero b && F.sign a != F.sign b then (F.zero false, fl)
  else if F.valueLt a b then (b, fl) else (a, fl)

/-- The class of a pattern: the bit of the mask that is set (rule R394). -/
def fclassBit (F : Fmt) (a : F.Pattern) : Nat :=
  if F.isSnan a then 8
  else if F.isNan a then 9
  else if F.isInf a then if F.sign a then 0 else 7
  else if F.isZero a then if F.sign a then 3 else 4
  else if F.isSubnormal a then if F.sign a then 2 else 5
  else if F.sign a then 1 else 6

/-- `fclass_F` (rule R394). -/
def fclass (F : Fmt) (a : F.Pattern) : Word := 1 <<< fclassBit F a

/-- The pattern `s || a[W-2:0]`. -/
def withSign (F : Fmt) (s : Bool) (a : F.Pattern) : F.Pattern :=
  if F.sign a = s then a else F.negate a

/-- `fsgnj` (rule R395). -/
def fsgnj (F : Fmt) (a b : F.Pattern) : F.Pattern := withSign F (F.sign b) a

/-- `fsgnjn` (rule R395). -/
def fsgnjn (F : Fmt) (a b : F.Pattern) : F.Pattern := withSign F (!F.sign b) a

/-- `fsgnjx` (rule R395). -/
def fsgnjx (F : Fmt) (a b : F.Pattern) : F.Pattern := withSign F (F.sign a ^^ F.sign b) a

/-- A comparison result as the 64-bit value 0 or 1 (spec/46_fp_single.md rule R440). -/
def boolWord (r : Bool × Flags) : Word × Flags := (if r.1 then 1 else 0, r.2)

/-- A 32-bit integer result, signed or unsigned, sign-extended (rule R385). -/
def intWord (r : BitVec 32 × Flags) : Word × Flags := (sext r.1, r.2)

end Sys2Proof.Machine
end

