-- ==== Sys2Proof/Machine/Double.lean ====
section
/-! DEFINITION. The double-precision instructions (spec/47_fp_double.md): operands and results are the 64 raw bits (rule R458). -/

namespace Sys2Proof.Machine

/-- FLD, rule R460. -/
def execFld (rd : Reg) (rs1 : Reg) (imm : BitVec 12) (s : State) : Result :=
  loadF 8 id rd (s.ea rs1 (sext imm)) s

/-- FSD, rule R461. -/
def execFsd (rs2 : Reg) (rs1 : Reg) (imm : BitVec 12) (s : State) : Result :=
  storeV 8 (s.ea rs1 (sext imm)) (s.readF rs2) s

/-- FMADD.D, rule R462. -/
def execFmaddD (rd : Reg) (rs1 : Reg) (rs2 : Reg) (rs3 : Reg) (rm : BitVec 3) (s : State) : Result :=
  withRm (.fmaddD rd rs1 rs2 rs3 rm) rm (fun r => s.resultD rd (fma .d s.cfg.fpArithMode r (s.readF rs1) (s.readF rs2) (s.readF rs3) false false)) s

/-- FMSUB.D, rule R463. -/
def execFmsubD (rd : Reg) (rs1 : Reg) (rs2 : Reg) (rs3 : Reg) (rm : BitVec 3) (s : State) : Result :=
  withRm (.fmsubD rd rs1 rs2 rs3 rm) rm (fun r => s.resultD rd (fma .d s.cfg.fpArithMode r (s.readF rs1) (s.readF rs2) (s.readF rs3) false true)) s

/-- FNMSUB.D, rule R464. -/
def execFnmsubD (rd : Reg) (rs1 : Reg) (rs2 : Reg) (rs3 : Reg) (rm : BitVec 3) (s : State) : Result :=
  withRm (.fnmsubD rd rs1 rs2 rs3 rm) rm (fun r => s.resultD rd (fma .d s.cfg.fpArithMode r (s.readF rs1) (s.readF rs2) (s.readF rs3) true false)) s

/-- FNMADD.D, rule R465. -/
def execFnmaddD (rd : Reg) (rs1 : Reg) (rs2 : Reg) (rs3 : Reg) (rm : BitVec 3) (s : State) : Result :=
  withRm (.fnmaddD rd rs1 rs2 rs3 rm) rm (fun r => s.resultD rd (fma .d s.cfg.fpArithMode r (s.readF rs1) (s.readF rs2) (s.readF rs3) true true)) s

/-- FADD.D, rule R466. -/
def execFaddD (rd : Reg) (rs1 : Reg) (rs2 : Reg) (rm : BitVec 3) (s : State) : Result :=
  withRm (.faddD rd rs1 rs2 rm) rm (fun r => s.resultD rd (fadd .d s.cfg.fpArithMode r (s.readF rs1) (s.readF rs2))) s

/-- FSUB.D, rule R467. -/
def execFsubD (rd : Reg) (rs1 : Reg) (rs2 : Reg) (rm : BitVec 3) (s : State) : Result :=
  withRm (.fsubD rd rs1 rs2 rm) rm (fun r => s.resultD rd (fsub .d s.cfg.fpArithMode r (s.readF rs1) (s.readF rs2))) s

/-- FMUL.D, rule R468. -/
def execFmulD (rd : Reg) (rs1 : Reg) (rs2 : Reg) (rm : BitVec 3) (s : State) : Result :=
  withRm (.fmulD rd rs1 rs2 rm) rm (fun r => s.resultD rd (fmul .d s.cfg.fpArithMode r (s.readF rs1) (s.readF rs2))) s

/-- FDIV.D, rule R469. -/
def execFdivD (rd : Reg) (rs1 : Reg) (rs2 : Reg) (rm : BitVec 3) (s : State) : Result :=
  withRm (.fdivD rd rs1 rs2 rm) rm (fun r => s.resultD rd (fdiv .d s.cfg.fpArithMode r (s.readF rs1) (s.readF rs2))) s

/-- FSQRT.D, rule R470. -/
def execFsqrtD (rd : Reg) (rs1 : Reg) (rm : BitVec 3) (s : State) : Result :=
  withRm (.fsqrtD rd rs1 rm) rm (fun r => s.resultD rd (fsqrt .d s.cfg.fpArithMode r (s.readF rs1))) s

/-- FSGNJ.D, rule R471. -/
def execFsgnjD (rd : Reg) (rs1 : Reg) (rs2 : Reg) (s : State) : Result :=
  .next (s.writeF rd (fsgnj .d (s.readF rs1) (s.readF rs2)))

/-- FSGNJN.D, rule R472. -/
def execFsgnjnD (rd : Reg) (rs1 : Reg) (rs2 : Reg) (s : State) : Result :=
  .next (s.writeF rd (fsgnjn .d (s.readF rs1) (s.readF rs2)))

/-- FSGNJX.D, rule R473. -/
def execFsgnjxD (rd : Reg) (rs1 : Reg) (rs2 : Reg) (s : State) : Result :=
  .next (s.writeF rd (fsgnjx .d (s.readF rs1) (s.readF rs2)))

/-- FMIN.D, rule R474. -/
def execFminD (rd : Reg) (rs1 : Reg) (rs2 : Reg) (s : State) : Result :=
  .next (s.resultD rd (fmin .d (s.readF rs1) (s.readF rs2)))

/-- FMAX.D, rule R475. -/
def execFmaxD (rd : Reg) (rs1 : Reg) (rs2 : Reg) (s : State) : Result :=
  .next (s.resultD rd (fmax .d (s.readF rs1) (s.readF rs2)))

/-- FCVT.S.D, rule R476. -/
def execFcvtSD (rd : Reg) (rs1 : Reg) (rm : BitVec 3) (s : State) : Result :=
  withRm (.fcvtSD rd rs1 rm) rm (fun r => s.resultS rd (f2fDtoS s.cfg.fpArithMode r (s.readF rs1))) s

/-- FCVT.D.S, rule R477. -/
def execFcvtDS (rd : Reg) (rs1 : Reg) (rm : BitVec 3) (s : State) : Result :=
  withRm (.fcvtDS rd rs1 rm) rm (fun _ => s.resultD rd (f2fStoD (s.readS rs1))) s

/-- FEQ.D, rule R478. -/
def execFeqD (rd : Reg) (rs1 : Reg) (rs2 : Reg) (s : State) : Result :=
  .next (s.resultX rd (boolWord (feq .d (s.readF rs1) (s.readF rs2))))

/-- FLT.D, rule R479. -/
def execFltD (rd : Reg) (rs1 : Reg) (rs2 : Reg) (s : State) : Result :=
  .next (s.resultX rd (boolWord (flt .d (s.readF rs1) (s.readF rs2))))

/-- FLE.D, rule R480. -/
def execFleD (rd : Reg) (rs1 : Reg) (rs2 : Reg) (s : State) : Result :=
  .next (s.resultX rd (boolWord (fle .d (s.readF rs1) (s.readF rs2))))

/-- FCLASS.D, rule R481. -/
def execFclassD (rd : Reg) (rs1 : Reg) (s : State) : Result :=
  setReg rd (fclass .d (s.readF rs1)) s

/-- FCVT.W.D, rule R482. -/
def execFcvtWD (rd : Reg) (rs1 : Reg) (rm : BitVec 3) (s : State) : Result :=
  withRm (.fcvtWD rd rs1 rm) rm (fun r => s.resultX rd (intWord (f2i .d r (s.readF rs1) 32 true))) s

/-- FCVT.WU.D, rule R483. -/
def execFcvtWuD (rd : Reg) (rs1 : Reg) (rm : BitVec 3) (s : State) : Result :=
  withRm (.fcvtWuD rd rs1 rm) rm (fun r => s.resultX rd (intWord (f2i .d r (s.readF rs1) 32 false))) s

/-- FCVT.L.D, rule R484. -/
def execFcvtLD (rd : Reg) (rs1 : Reg) (rm : BitVec 3) (s : State) : Result :=
  withRm (.fcvtLD rd rs1 rm) rm (fun r => s.resultX rd (f2i .d r (s.readF rs1) 64 true)) s

/-- FCVT.LU.D, rule R485. -/
def execFcvtLuD (rd : Reg) (rs1 : Reg) (rm : BitVec 3) (s : State) : Result :=
  withRm (.fcvtLuD rd rs1 rm) rm (fun r => s.resultX rd (f2i .d r (s.readF rs1) 64 false)) s

/-- FCVT.D.W, rule R486. -/
def execFcvtDW (rd : Reg) (rs1 : Reg) (rm : BitVec 3) (s : State) : Result :=
  withRm (.fcvtDW rd rs1 rm) rm (fun r => s.resultD rd (i2f .d s.cfg.fpArithMode r (lo32 (s.readX rs1)).toInt)) s

/-- FCVT.D.WU, rule R487. -/
def execFcvtDWu (rd : Reg) (rs1 : Reg) (rm : BitVec 3) (s : State) : Result :=
  withRm (.fcvtDWu rd rs1 rm) rm (fun r => s.resultD rd (i2f .d s.cfg.fpArithMode r (lo32 (s.readX rs1)).toNat)) s

/-- FCVT.D.L, rule R488. -/
def execFcvtDL (rd : Reg) (rs1 : Reg) (rm : BitVec 3) (s : State) : Result :=
  withRm (.fcvtDL rd rs1 rm) rm (fun r => s.resultD rd (i2f .d s.cfg.fpArithMode r (s.readX rs1).toInt)) s

/-- FCVT.D.LU, rule R489. -/
def execFcvtDLu (rd : Reg) (rs1 : Reg) (rm : BitVec 3) (s : State) : Result :=
  withRm (.fcvtDLu rd rs1 rm) rm (fun r => s.resultD rd (i2f .d s.cfg.fpArithMode r (s.readX rs1).toNat)) s

/-- FMV.X.D, rule R490. -/
def execFmvXD (rd : Reg) (rs1 : Reg) (s : State) : Result :=
  setReg rd (s.readF rs1) s

/-- FMV.D.X, rule R491. -/
def execFmvDX (rd : Reg) (rs1 : Reg) (s : State) : Result :=
  .next (s.writeF rd (s.readX rs1))

end Sys2Proof.Machine
end

