-- ==== Sys2Proof/Machine/IntCompute.lean ====
section
/-! DEFINITION. The integer computational instructions of RV64I (spec/40_integer_compute.md sections 2 to 5). Sources are read before
the destination is written; a result goes through `setReg`, so `x0` discards it (rule R216). -/

namespace Sys2Proof.Machine

/-- LUI, rule R173. -/
def execLui (rd : Reg) (imm20 : BitVec 20) (s : State) : Result :=
  setReg rd (immUpper imm20) s

/-- AUIPC, rule R174. -/
def execAuipc (rd : Reg) (imm20 : BitVec 20) (s : State) : Result :=
  setReg rd (s.pc + immUpper imm20) s

/-- ADDI, rule R175. -/
def execAddi (rd : Reg) (rs1 : Reg) (imm : BitVec 12) (s : State) : Result :=
  setReg rd (s.readX rs1 + sext imm) s

/-- SLTI, rule R176. -/
def execSlti (rd : Reg) (rs1 : Reg) (imm : BitVec 12) (s : State) : Result :=
  setReg rd (if (s.readX rs1).slt (sext imm) then 1 else 0) s

/-- SLTIU, rule R177. -/
def execSltiu (rd : Reg) (rs1 : Reg) (imm : BitVec 12) (s : State) : Result :=
  setReg rd (if (s.readX rs1).ult (sext imm) then 1 else 0) s

/-- XORI, rule R178. -/
def execXori (rd : Reg) (rs1 : Reg) (imm : BitVec 12) (s : State) : Result :=
  setReg rd (s.readX rs1 ^^^ sext imm) s

/-- ORI, rule R179. -/
def execOri (rd : Reg) (rs1 : Reg) (imm : BitVec 12) (s : State) : Result :=
  setReg rd (s.readX rs1 ||| sext imm) s

/-- ANDI, rule R180. -/
def execAndi (rd : Reg) (rs1 : Reg) (imm : BitVec 12) (s : State) : Result :=
  setReg rd (s.readX rs1 &&& sext imm) s

/-- SLLI, rule R181. -/
def execSlli (rd : Reg) (rs1 : Reg) (shamt : BitVec 6) (s : State) : Result :=
  setReg rd (s.readX rs1 <<< shamt.toNat) s

/-- SRLI, rule R182. -/
def execSrli (rd : Reg) (rs1 : Reg) (shamt : BitVec 6) (s : State) : Result :=
  setReg rd (s.readX rs1 >>> shamt.toNat) s

/-- SRAI, rule R183. -/
def execSrai (rd : Reg) (rs1 : Reg) (shamt : BitVec 6) (s : State) : Result :=
  setReg rd ((s.readX rs1).sshiftRight shamt.toNat) s

/-- ADD, rule R184. -/
def execAdd (rd : Reg) (rs1 : Reg) (rs2 : Reg) (s : State) : Result :=
  setReg rd (s.readX rs1 + s.readX rs2) s

/-- SUB, rule R185. -/
def execSub (rd : Reg) (rs1 : Reg) (rs2 : Reg) (s : State) : Result :=
  setReg rd (s.readX rs1 - s.readX rs2) s

/-- SLL, rule R186. -/
def execSll (rd : Reg) (rs1 : Reg) (rs2 : Reg) (s : State) : Result :=
  setReg rd (s.readX rs1 <<< shamt64 (s.readX rs2)) s

/-- SLT, rule R187. -/
def execSlt (rd : Reg) (rs1 : Reg) (rs2 : Reg) (s : State) : Result :=
  setReg rd (if (s.readX rs1).slt (s.readX rs2) then 1 else 0) s

/-- SLTU, rule R188. -/
def execSltu (rd : Reg) (rs1 : Reg) (rs2 : Reg) (s : State) : Result :=
  setReg rd (if (s.readX rs1).ult (s.readX rs2) then 1 else 0) s

/-- XOR, rule R189. -/
def execXor (rd : Reg) (rs1 : Reg) (rs2 : Reg) (s : State) : Result :=
  setReg rd (s.readX rs1 ^^^ s.readX rs2) s

/-- SRL, rule R190. -/
def execSrl (rd : Reg) (rs1 : Reg) (rs2 : Reg) (s : State) : Result :=
  setReg rd (s.readX rs1 >>> shamt64 (s.readX rs2)) s

/-- SRA, rule R191. -/
def execSra (rd : Reg) (rs1 : Reg) (rs2 : Reg) (s : State) : Result :=
  setReg rd ((s.readX rs1).sshiftRight (shamt64 (s.readX rs2))) s

/-- OR, rule R192. -/
def execOr (rd : Reg) (rs1 : Reg) (rs2 : Reg) (s : State) : Result :=
  setReg rd (s.readX rs1 ||| s.readX rs2) s

/-- AND, rule R193. -/
def execAnd (rd : Reg) (rs1 : Reg) (rs2 : Reg) (s : State) : Result :=
  setReg rd (s.readX rs1 &&& s.readX rs2) s

/-- ADDIW, rule R194. -/
def execAddiw (rd : Reg) (rs1 : Reg) (imm : BitVec 12) (s : State) : Result :=
  setReg rd (sext (lo32 (s.readX rs1 + sext imm))) s

/-- SLLIW, rule R195. -/
def execSlliw (rd : Reg) (rs1 : Reg) (shamt : BitVec 5) (s : State) : Result :=
  setReg rd (sext (lo32 (s.readX rs1) <<< shamt.toNat)) s

/-- SRLIW, rule R196. -/
def execSrliw (rd : Reg) (rs1 : Reg) (shamt : BitVec 5) (s : State) : Result :=
  setReg rd (sext (lo32 (s.readX rs1) >>> shamt.toNat)) s

/-- SRAIW, rule R197. -/
def execSraiw (rd : Reg) (rs1 : Reg) (shamt : BitVec 5) (s : State) : Result :=
  setReg rd (sext ((lo32 (s.readX rs1)).sshiftRight shamt.toNat)) s

/-- ADDW, rule R198. -/
def execAddw (rd : Reg) (rs1 : Reg) (rs2 : Reg) (s : State) : Result :=
  setReg rd (sext (lo32 (s.readX rs1 + s.readX rs2))) s

/-- SUBW, rule R199. -/
def execSubw (rd : Reg) (rs1 : Reg) (rs2 : Reg) (s : State) : Result :=
  setReg rd (sext (lo32 (s.readX rs1 - s.readX rs2))) s

/-- SLLW, rule R200. -/
def execSllw (rd : Reg) (rs1 : Reg) (rs2 : Reg) (s : State) : Result :=
  setReg rd (sext (lo32 (s.readX rs1) <<< shamt32 (s.readX rs2))) s

/-- SRLW, rule R201. -/
def execSrlw (rd : Reg) (rs1 : Reg) (rs2 : Reg) (s : State) : Result :=
  setReg rd (sext (lo32 (s.readX rs1) >>> shamt32 (s.readX rs2))) s

/-- SRAW, rule R202. -/
def execSraw (rd : Reg) (rs1 : Reg) (rs2 : Reg) (s : State) : Result :=
  setReg rd (sext ((lo32 (s.readX rs1)).sshiftRight (shamt32 (s.readX rs2)))) s

end Sys2Proof.Machine
end

