-- ==== Sys2Proof/Machine/LoadStore.lean ====
section
/-! DEFINITION. Integer loads and stores, FENCE, FENCE.I (spec/42_load_store_fence.md). A loaded value comes zero-extended from
`State.load`; the signed loads extend its low part (rule R271). The fences do nothing (rules R284, R285). -/

namespace Sys2Proof.Machine

/-- LB, rule R273. -/
def execLb (rd : Reg) (rs1 : Reg) (imm : BitVec 12) (s : State) : Result :=
  loadX 1 (fun v => sext (v.setWidth 8)) rd (s.ea rs1 (sext imm)) s

/-- LH, rule R274. -/
def execLh (rd : Reg) (rs1 : Reg) (imm : BitVec 12) (s : State) : Result :=
  loadX 2 (fun v => sext (v.setWidth 16)) rd (s.ea rs1 (sext imm)) s

/-- LW, rule R275. -/
def execLw (rd : Reg) (rs1 : Reg) (imm : BitVec 12) (s : State) : Result :=
  loadX 4 (fun v => sext (lo32 v)) rd (s.ea rs1 (sext imm)) s

/-- LD, rule R276. -/
def execLd (rd : Reg) (rs1 : Reg) (imm : BitVec 12) (s : State) : Result :=
  loadX 8 id rd (s.ea rs1 (sext imm)) s

/-- LBU, rule R277. -/
def execLbu (rd : Reg) (rs1 : Reg) (imm : BitVec 12) (s : State) : Result :=
  loadX 1 id rd (s.ea rs1 (sext imm)) s

/-- LHU, rule R278. -/
def execLhu (rd : Reg) (rs1 : Reg) (imm : BitVec 12) (s : State) : Result :=
  loadX 2 id rd (s.ea rs1 (sext imm)) s

/-- LWU, rule R279. -/
def execLwu (rd : Reg) (rs1 : Reg) (imm : BitVec 12) (s : State) : Result :=
  loadX 4 id rd (s.ea rs1 (sext imm)) s

/-- SB, rule R280. -/
def execSb (rs2 : Reg) (rs1 : Reg) (imm : BitVec 12) (s : State) : Result :=
  storeV 1 (s.ea rs1 (sext imm)) (s.readX rs2) s

/-- SH, rule R281. -/
def execSh (rs2 : Reg) (rs1 : Reg) (imm : BitVec 12) (s : State) : Result :=
  storeV 2 (s.ea rs1 (sext imm)) (s.readX rs2) s

/-- SW, rule R282. -/
def execSw (rs2 : Reg) (rs1 : Reg) (imm : BitVec 12) (s : State) : Result :=
  storeV 4 (s.ea rs1 (sext imm)) (s.readX rs2) s

/-- SD, rule R283. -/
def execSd (rs2 : Reg) (rs1 : Reg) (imm : BitVec 12) (s : State) : Result :=
  storeV 8 (s.ea rs1 (sext imm)) (s.readX rs2) s

/-- FENCE, rule R284. -/
def execFence (_fm : BitVec 4) (_pred : BitVec 4) (_succ : BitVec 4) (_rs1 : Reg) (_rd : Reg) (s : State) : Result :=
  .next s

/-- FENCE.I, rule R285. -/
def execFenceI (_imm : BitVec 12) (_rs1 : Reg) (_rd : Reg) (s : State) : Result :=
  .next s

end Sys2Proof.Machine
end

