-- ==== Sys2Proof/Machine/MulDiv.lean ====
section
/-! DEFINITION. Multiplication and division (spec/40_integer_compute.md sections 6 and 7). No case traps (rule R172). -/

namespace Sys2Proof.Machine

/-- The high 64 bits of an exact 128-bit product (rules R204 to R206). -/
def mulHigh (a b : Int) : Word := (BitVec.ofInt 128 (a * b)).extractLsb' 64 64

/-- Signed division of `W`-bit operands, rounding toward zero, with the corner cases of rule R172. -/
def divSigned {W : Nat} (a b : BitVec W) : BitVec W :=
  if b = 0 then -1 else if a = BitVec.intMin W ∧ b = -1 then a else BitVec.ofInt W (a.toInt.tdiv b.toInt)

/-- Unsigned division (rule R172). -/
def divUnsigned {W : Nat} (a b : BitVec W) : BitVec W := if b = 0 then -1 else BitVec.ofNat W (a.toNat / b.toNat)

/-- Signed remainder, of the dividend's sign (rule R172). -/
def remSigned {W : Nat} (a b : BitVec W) : BitVec W :=
  if b = 0 then a else if a = BitVec.intMin W ∧ b = -1 then 0
  else BitVec.ofInt W (a.toInt - b.toInt * a.toInt.tdiv b.toInt)

/-- Unsigned remainder (rule R172). -/
def remUnsigned {W : Nat} (a b : BitVec W) : BitVec W := if b = 0 then a else BitVec.ofNat W (a.toNat % b.toNat)

/-- MUL, rule R203. -/
def execMul (rd : Reg) (rs1 : Reg) (rs2 : Reg) (s : State) : Result :=
  setReg rd (s.readX rs1 * s.readX rs2) s

/-- MULH, rule R204. -/
def execMulh (rd : Reg) (rs1 : Reg) (rs2 : Reg) (s : State) : Result :=
  setReg rd (mulHigh (s.readX rs1).toInt (s.readX rs2).toInt) s

/-- MULHSU, rule R205. -/
def execMulhsu (rd : Reg) (rs1 : Reg) (rs2 : Reg) (s : State) : Result :=
  setReg rd (mulHigh (s.readX rs1).toInt (s.readX rs2).toNat) s

/-- MULHU, rule R206. -/
def execMulhu (rd : Reg) (rs1 : Reg) (rs2 : Reg) (s : State) : Result :=
  setReg rd (mulHigh (s.readX rs1).toNat (s.readX rs2).toNat) s

/-- DIV, rule R207. -/
def execDiv (rd : Reg) (rs1 : Reg) (rs2 : Reg) (s : State) : Result :=
  setReg rd (divSigned (s.readX rs1) (s.readX rs2)) s

/-- DIVU, rule R208. -/
def execDivu (rd : Reg) (rs1 : Reg) (rs2 : Reg) (s : State) : Result :=
  setReg rd (divUnsigned (s.readX rs1) (s.readX rs2)) s

/-- REM, rule R209. -/
def execRem (rd : Reg) (rs1 : Reg) (rs2 : Reg) (s : State) : Result :=
  setReg rd (remSigned (s.readX rs1) (s.readX rs2)) s

/-- REMU, rule R211. -/
def execRemu (rd : Reg) (rs1 : Reg) (rs2 : Reg) (s : State) : Result :=
  setReg rd (remUnsigned (s.readX rs1) (s.readX rs2)) s

/-- MULW, rule R210. -/
def execMulw (rd : Reg) (rs1 : Reg) (rs2 : Reg) (s : State) : Result :=
  setReg rd (sext (lo32 (s.readX rs1) * lo32 (s.readX rs2))) s

/-- DIVW, rule R212. -/
def execDivw (rd : Reg) (rs1 : Reg) (rs2 : Reg) (s : State) : Result :=
  setReg rd (sext (divSigned (lo32 (s.readX rs1)) (lo32 (s.readX rs2)))) s

/-- DIVUW, rule R213. -/
def execDivuw (rd : Reg) (rs1 : Reg) (rs2 : Reg) (s : State) : Result :=
  setReg rd (sext (divUnsigned (lo32 (s.readX rs1)) (lo32 (s.readX rs2)))) s

/-- REMW, rule R214. -/
def execRemw (rd : Reg) (rs1 : Reg) (rs2 : Reg) (s : State) : Result :=
  setReg rd (sext (remSigned (lo32 (s.readX rs1)) (lo32 (s.readX rs2)))) s

/-- REMUW, rule R215. -/
def execRemuw (rd : Reg) (rs1 : Reg) (rs2 : Reg) (s : State) : Result :=
  setReg rd (sext (remUnsigned (lo32 (s.readX rs1)) (lo32 (s.readX rs2)))) s

end Sys2Proof.Machine
end

