-- ==== Sys2Proof/Machine/Single.lean ====
section
/-! DEFINITION. The single-precision instructions (spec/46_fp_single.md): registers bound to the primitives. A source is read through
`unbox32` and a result written through `box32`, but for FSW and FMV.X.W (rule R418); an instruction with a rounding-mode field
goes through `withRm` (rule R419). -/

namespace Sys2Proof.Machine

/-- FLW, rule R420. -/
def execFlw (rd : Reg) (rs1 : Reg) (imm : BitVec 12) (s : State) : Result :=
  loadF 4 (fun v => box32 (lo32 v)) rd (s.ea rs1 (sext imm)) s

/-- FSW, rule R421. -/
def execFsw (rs2 : Reg) (rs1 : Reg) (imm : BitVec 12) (s : State) : Result :=
  storeV 4 (s.ea rs1 (sext imm)) (s.readF rs2) s

/-- FMADD.S, rule R422. -/
def execFmaddS (rd : Reg) (rs1 : Reg) (rs2 : Reg) (rs3 : Reg) (rm : BitVec 3) (s : State) : Result :=
  withRm (.fmaddS rd rs1 rs2 rs3 rm) rm (fun r => s.resultS rd (fma .s s.cfg.fpArithMode r (s.readS rs1) (s.readS rs2) (s.readS rs3) false false)) s

/-- FMSUB.S, rule R423. -/
def execFmsubS (rd : Reg) (rs1 : Reg) (rs2 : Reg) (rs3 : Reg) (rm : BitVec 3) (s : State) : Result :=
  withRm (.fmsubS rd rs1 rs2 rs3 rm) rm (fun r => s.resultS rd (fma .s s.cfg.fpArithMode r (s.readS rs1) (s.readS rs2) (s.readS rs3) false true)) s

/-- FNMSUB.S, rule R424. -/
def execFnmsubS (rd : Reg) (rs1 : Reg) (rs2 : Reg) (rs3 : Reg) (rm : BitVec 3) (s : State) : Result :=
  withRm (.fnmsubS rd rs1 rs2 rs3 rm) rm (fun r => s.resultS rd (fma .s s.cfg.fpArithMode r (s.readS rs1) (s.readS rs2) (s.readS rs3) true false)) s

/-- FNMADD.S, rule R425. -/
def execFnmaddS (rd : Reg) (rs1 : Reg) (rs2 : Reg) (rs3 : Reg) (rm : BitVec 3) (s : State) : Result :=
  withRm (.fnmaddS rd rs1 rs2 rs3 rm) rm (fun r => s.resultS rd (fma .s s.cfg.fpArithMode r (s.readS rs1) (s.readS rs2) (s.readS rs3) true true)) s

/-- FADD.S, rule R426. -/
def execFaddS (rd : Reg) (rs1 : Reg) (rs2 : Reg) (rm : BitVec 3) (s : State) : Result :=
  withRm (.faddS rd rs1 rs2 rm) rm (fun r => s.resultS rd (fadd .s s.cfg.fpArithMode r (s.readS rs1) (s.readS rs2))) s

/-- FSUB.S, rule R427. -/
def execFsubS (rd : Reg) (rs1 : Reg) (rs2 : Reg) (rm : BitVec 3) (s : State) : Result :=
  withRm (.fsubS rd rs1 rs2 rm) rm (fun r => s.resultS rd (fsub .s s.cfg.fpArithMode r (s.readS rs1) (s.readS rs2))) s

/-- FMUL.S, rule R428. -/
def execFmulS (rd : Reg) (rs1 : Reg) (rs2 : Reg) (rm : BitVec 3) (s : State) : Result :=
  withRm (.fmulS rd rs1 rs2 rm) rm (fun r => s.resultS rd (fmul .s s.cfg.fpArithMode r (s.readS rs1) (s.readS rs2))) s

/-- FDIV.S, rule R429. -/
def execFdivS (rd : Reg) (rs1 : Reg) (rs2 : Reg) (rm : BitVec 3) (s : State) : Result :=
  withRm (.fdivS rd rs1 rs2 rm) rm (fun r => s.resultS rd (fdiv .s s.cfg.fpArithMode r (s.readS rs1) (s.readS rs2))) s

/-- FSQRT.S, rule R430. -/
def execFsqrtS (rd : Reg) (rs1 : Reg) (rm : BitVec 3) (s : State) : Result :=
  withRm (.fsqrtS rd rs1 rm) rm (fun r => s.resultS rd (fsqrt .s s.cfg.fpArithMode r (s.readS rs1))) s

/-- FSGNJ.S, rule R431. -/
def execFsgnjS (rd : Reg) (rs1 : Reg) (rs2 : Reg) (s : State) : Result :=
  .next (s.writeS rd (fsgnj .s (s.readS rs1) (s.readS rs2)))

/-- FSGNJN.S, rule R432. -/
def execFsgnjnS (rd : Reg) (rs1 : Reg) (rs2 : Reg) (s : State) : Result :=
  .next (s.writeS rd (fsgnjn .s (s.readS rs1) (s.readS rs2)))

/-- FSGNJX.S, rule R433. -/
def execFsgnjxS (rd : Reg) (rs1 : Reg) (rs2 : Reg) (s : State) : Result :=
  .next (s.writeS rd (fsgnjx .s (s.readS rs1) (s.readS rs2)))

/-- FMIN.S, rule R434. -/
def execFminS (rd : Reg) (rs1 : Reg) (rs2 : Reg) (s : State) : Result :=
  .next (s.resultS rd (fmin .s (s.readS rs1) (s.readS rs2)))

/-- FMAX.S, rule R435. -/
def execFmaxS (rd : Reg) (rs1 : Reg) (rs2 : Reg) (s : State) : Result :=
  .next (s.resultS rd (fmax .s (s.readS rs1) (s.readS rs2)))

/-- FCVT.W.S, rule R436. -/
def execFcvtWS (rd : Reg) (rs1 : Reg) (rm : BitVec 3) (s : State) : Result :=
  withRm (.fcvtWS rd rs1 rm) rm (fun r => s.resultX rd (intWord (f2i .s r (s.readS rs1) 32 true))) s

/-- FCVT.WU.S, rule R437. -/
def execFcvtWuS (rd : Reg) (rs1 : Reg) (rm : BitVec 3) (s : State) : Result :=
  withRm (.fcvtWuS rd rs1 rm) rm (fun r => s.resultX rd (intWord (f2i .s r (s.readS rs1) 32 false))) s

/-- FCVT.L.S, rule R438. -/
def execFcvtLS (rd : Reg) (rs1 : Reg) (rm : BitVec 3) (s : State) : Result :=
  withRm (.fcvtLS rd rs1 rm) rm (fun r => s.resultX rd (f2i .s r (s.readS rs1) 64 true)) s

/-- FCVT.LU.S, rule R439. -/
def execFcvtLuS (rd : Reg) (rs1 : Reg) (rm : BitVec 3) (s : State) : Result :=
  withRm (.fcvtLuS rd rs1 rm) rm (fun r => s.resultX rd (f2i .s r (s.readS rs1) 64 false)) s

/-- FEQ.S, rule R440. -/
def execFeqS (rd : Reg) (rs1 : Reg) (rs2 : Reg) (s : State) : Result :=
  .next (s.resultX rd (boolWord (feq .s (s.readS rs1) (s.readS rs2))))

/-- FLT.S, rule R441. -/
def execFltS (rd : Reg) (rs1 : Reg) (rs2 : Reg) (s : State) : Result :=
  .next (s.resultX rd (boolWord (flt .s (s.readS rs1) (s.readS rs2))))

/-- FLE.S, rule R442. -/
def execFleS (rd : Reg) (rs1 : Reg) (rs2 : Reg) (s : State) : Result :=
  .next (s.resultX rd (boolWord (fle .s (s.readS rs1) (s.readS rs2))))

/-- FMV.X.W, rule R443. -/
def execFmvXW (rd : Reg) (rs1 : Reg) (s : State) : Result :=
  setReg rd (sext (lo32 (s.readF rs1))) s

/-- FCLASS.S, rule R444. -/
def execFclassS (rd : Reg) (rs1 : Reg) (s : State) : Result :=
  setReg rd (fclass .s (s.readS rs1)) s

/-- FCVT.S.W, rule R445. -/
def execFcvtSW (rd : Reg) (rs1 : Reg) (rm : BitVec 3) (s : State) : Result :=
  withRm (.fcvtSW rd rs1 rm) rm (fun r => s.resultS rd (i2f .s s.cfg.fpArithMode r (lo32 (s.readX rs1)).toInt)) s

/-- FCVT.S.WU, rule R446. -/
def execFcvtSWu (rd : Reg) (rs1 : Reg) (rm : BitVec 3) (s : State) : Result :=
  withRm (.fcvtSWu rd rs1 rm) rm (fun r => s.resultS rd (i2f .s s.cfg.fpArithMode r (lo32 (s.readX rs1)).toNat)) s

/-- FCVT.S.L, rule R447. -/
def execFcvtSL (rd : Reg) (rs1 : Reg) (rm : BitVec 3) (s : State) : Result :=
  withRm (.fcvtSL rd rs1 rm) rm (fun r => s.resultS rd (i2f .s s.cfg.fpArithMode r (s.readX rs1).toInt)) s

/-- FCVT.S.LU, rule R448. -/
def execFcvtSLu (rd : Reg) (rs1 : Reg) (rm : BitVec 3) (s : State) : Result :=
  withRm (.fcvtSLu rd rs1 rm) rm (fun r => s.resultS rd (i2f .s s.cfg.fpArithMode r (s.readX rs1).toNat)) s

/-- FMV.W.X, rule R449. -/
def execFmvWX (rd : Reg) (rs1 : Reg) (s : State) : Result :=
  .next (s.writeS rd (lo32 (s.readX rs1)))

end Sys2Proof.Machine
end

