-- ==== Sys2Proof/Machine/VectorPort.lean ====
section
/-! DEFINITION. The block's side of the vector-unit port (spec/48_vector_interface.md rules R500, R512), and the one numeric
helper the spec describes for the unit (rule R506). -/

namespace Sys2Proof.Machine

/-- What the block shows the vector unit for the word `w` (rule R500). -/
def State.vectorRequest (s : State) (w : BitVec 32) : VectorRequest where
  hart := s.hartId
  unit := s.vecUnit
  word := w
  xrs1 := s.readX (fieldRs1 w)
  xrs2 := s.readX (fieldRs2 w)
  frs1 := s.readF (fieldRs1 w)
  pc := s.pc
  mem := s.mem

/-- Why the accesses of a vector instruction stop. -/
inductive VectorStop where
  /-- A check failed: the hart halts. -/
  | halt (cause : Cause) (addr : Word)
  /-- A byte is outside the allocated set: the model is stuck (spec/20_memory.md rule R81). -/
  | unallocated (addr : Word)
  deriving DecidableEq, Repr

/-- One access of the vector unit to the `n` bytes from `a`, with the checks of a scalar access (rule R500). -/
def State.vectorAccessAt (s : State) (a : Word) (n : Nat) (effect : State) : Except VectorStop State :=
  match s.accessCheck false a n with
  | some cause => .error (.halt cause a)
  | none => if s.backed a n then .ok effect else .error (.unallocated a)

/-- One access of the vector unit, with the checks and the notifications of a scalar access (rule R500). -/
def State.vectorAccess (s : State) : VectorAccess → Except VectorStop State
  | .read a k => s.vectorAccessAt a (2 ^ k.val) s.notifyLoad
  | .write a k v => s.vectorAccessAt a (2 ^ k.val) (s.store a (2 ^ k.val) v)

/-- The accesses of a vector instruction, in order, up to the first that fails. -/
def State.vectorAccesses (s : State) : List VectorAccess → Except VectorStop State
  | [] => .ok s
  | a :: rest =>
    match s.vectorAccess a with
    | .error e => .error e
    | .ok t => t.vectorAccesses rest

/-- The registers and flags the answer `r` changes, for the word `w` (rule R500). -/
def State.vectorResult (s : State) (w : BitVec 32) (r : VectorAnswer) : State :=
  let s1 := match r.xrd with
    | some v => s.writeX (fieldRd w) v
    | none => s
  let s2 := match r.frd with
    | some v => s1.writeF (fieldRd w) v
    | none => s1
  { s2.raise r.flags with vecUnit := r.unit }

/-- A vector-form word (rules R500, R512): unimplemented without a unit; with one, the unit's answer takes effect, unless one
of its accesses fails a check: then the whole instruction has no effect but the halt. -/
def vectorWord (w : BitVec 32) (s : State) : Result :=
  if s.cfg.hasVectorUnit then
    let r := Config.vectorUnit (s.vectorRequest w)
    match s.vectorAccesses r.accesses with
    | .error (.halt cause a) => .next (s.halt cause a)
    | .error (.unallocated a) => .fault (.unallocated a)
    | .ok t => .next (t.vectorResult w r)
  else .next (s.halt .unimplementedInstruction (zext w))

/-- The least and the largest signed value of `W` bits. -/
def signedMin (W : Nat) : Int := -2 ^ (W - 1)
def signedMax (W : Nat) : Int := 2 ^ (W - 1) - 1

/-- An exact result clamped to the signed range of `W` bits, and whether it was outside it (rule R506). -/
def saturate (W : Nat) (x : Int) : BitVec W × Bool :=
  (BitVec.ofInt W (max (signedMin W) (min x (signedMax W))), decide (x < signedMin W ∨ signedMax W < x))

/-- `sat_add` (rule R506). -/
def satAdd {W : Nat} (a b : BitVec W) : BitVec W × Bool := saturate W (a.toInt + b.toInt)

/-- `sat_sub` (rule R506). -/
def satSub {W : Nat} (a b : BitVec W) : BitVec W × Bool := saturate W (a.toInt - b.toInt)

end Sys2Proof.Machine
end

