-- ==== Sys2Proof/Machine/RunControl.lean ====
section
/-! DEFINITION. Everything a step does around the execution of one instruction (spec/60_exceptions.md rules R585 to R588):
which hart moves, the stops between instructions, the fetch, the end of an instruction. -/

namespace Sys2Proof.Machine

/-! ### Which hart moves (spec/20_memory.md rule R99, spec/70_reset_and_hazards.md rule R615) -/

/-- The parked hart `id`, and the harts without it. -/
def takeHart (id : Nat) : List Hart → Option (Hart × List Hart)
  | [] => none
  | h :: rest =>
    if h.hartId = id then some (h, rest)
    else match takeHart id rest with
      | some (g, others) => some (g, h :: others)
      | none => none

/-- The hart in front, if there is one. -/
def State.front (s : State) : List Hart := if s.attached then [s.toHart] else []

/-- Hart `id` becomes the one that makes the next step, if it is another hart of the system. -/
def State.swapHart (s : State) (id : Nat) : State :=
  if s.attached = true ∧ id = s.hartId then s
  else match takeHart id s.harts with
    | some (h, rest) => { s with toHart := h, attached := true, harts := s.front ++ rest }
    | none => s

/-- The schedule's next choice is taken; with none left the same hart goes on. -/
def State.switchHart (s : State) : State :=
  match s.schedule with
  | [] => s
  | id :: rest => State.swapHart { s with schedule := rest } id

/-! ### The stops between instructions (spec/60_exceptions.md rules R586 to R588) -/

/-- What `BreakpointAt(pc)` returns (rule R588). -/
def breakpointAt (pc : Word) : List BreakpointEntry → Bool
  | [] => false
  | b :: rest => (b.addr == pc && b.enabled) || breakpointAt pc rest

/-- What `BreakpointAt(pc)` does to the set (rule R588): the first enabled entry at `pc` disables itself when temporary. -/
def breakpointsAfterHit (pc : Word) : List BreakpointEntry → List BreakpointEntry
  | [] => []
  | b :: rest =>
    if b.addr = pc ∧ b.enabled = true then (if b.temporary then { b with enabled := false } else b) :: rest
    else b :: breakpointsAfterHit pc rest

/-- The first stop that applies (rules R568, R585): the Sentinel check is never skipped. -/
def State.stopCause (s : State) (skip : Bool) : Option Cause :=
  if s.pc = s.cfg.endSimPc then some .sentinel
  else if skip then none
  else if breakpointAt s.pc s.breakpoints then some .breakpointHit
  else if s.cfg.icountStop = some s.icount.toNat then some .icountStop
  else none

/-- The halt of a stop (rule R560). -/
def State.stopAt (s : State) (cause : Cause) : State :=
  match cause with
  | .breakpointHit => State.halt { s with breakpoints := breakpointsAfterHit s.pc s.breakpoints } .breakpointHit s.pc
  | .icountStop => s.halt .icountStop s.icount
  | c => s.halt c s.pc

/-! ### Fetch (spec/20_memory.md rule R95) -/

/-- The 16-bit parcel at `a`. -/
def State.parcel (s : State) (a : Word) : BitVec 16 := Memory.read s.mem (a + 1).toNat ++ Memory.read s.mem a.toNat

/-- `Fetch(pc)`: the instruction bits, a compressed one zero-extended; or the fatal cause. -/
def State.fetch (s : State) : Except Cause (BitVec 32) :=
  if s.pc.getLsbD 0 then .error .instructionAddressMisaligned
  else if s.pc.toNat < s.cfg.nullPageSize then .error .nullPageAccess
  else
    let lo := s.parcel s.pc
    if isCompressed (lo.setWidth 32) then .ok (lo.setWidth 32)
    else .ok (s.parcel (s.pc + 2) ++ lo)

/-! ### The end of an instruction (spec/60_exceptions.md rule R585) -/

/-- The state after an instruction of `len` bytes has executed: `pc` advances unless it was written, the instruction is
counted; an environment halt is counted and leaves `pc`; a fatal halt changes nothing more (rule R570). -/
def State.retire (len : Nat) (s : State) : State :=
  match s.run with
  | .running =>
    { s with
      pc := if s.pcModified then s.pc else s.pc + BitVec.ofNat 64 len
      pcModified := false
      icount := s.icount + 1 }
  | .halted cause _ => if cause.environment then { s with icount := s.icount + 1 } else s

/-- `retire` of the next state, if there is one. -/
def retireResult (len : Nat) : Result → Result
  | .next s => .next (s.retire len)
  | .fault r => .fault r
  | .refused r => .refused r

/-- The execution of the fetched bits `w` by `execute`. -/
def State.runWord (execute : Instr → State → Result) (s : State) (w : BitVec 32) : Result :=
  let s := { s with pcModified := false }
  match decodeInst w with
  | .ok i => retireResult i.len (execute i s)
  | .error .vectorForm => retireResult 4 (vectorWord w s)
  | .error _ => .next (s.halt .unimplementedInstruction (zext w))

/-- The length of fetched bits (spec/30_encoding.md rule R120). -/
def fetchedLength (w : BitVec 32) : Nat := if isCompressed w then 2 else 4

/-- `Step(h)` (rule R585) of the hart that moves; fetched bytes outside the allocated set leave the model stuck
(spec/20_memory.md rule R81); with no hart in front nothing changes (DEDUCED, safe: log entry 20). -/
def State.stepHart (execute : Instr → State → Result) (s : State) : Result :=
  match s.run, s.attached with
  | .halted _ _, _ => .next s
  | .running, false => .next s
  | .running, true =>
    let skip := s.resumeSkip
    let s := { s with resumeSkip := false }
    match s.stopCause skip with
    | some cause => .next (s.stopAt cause)
    | none =>
      match s.fetch with
      | .error cause => .next (s.halt cause s.pc)
      | .ok w => if s.backed s.pc (fetchedLength w) then s.runWord execute w else .fault (.unallocated s.pc)

/-- One step of the system: the schedule says which hart moves, and it makes its step. -/
def State.stepWith (execute : Instr → State → Result) (s : State) : Result := s.switchHart.stepHart execute

/-! ### Placing an instruction where the next step fetches (log entry 15) -/

/-- A step at `a` reaches the fetch of an instruction there, whatever the breakpoints and the count say. -/
def State.fetchable (s : State) (a : Word) : Bool :=
  !a.getLsbD 0 && decide (s.cfg.nullPageSize ≤ a.toNat) && a != s.cfg.endSimPc

/-- An even address outside the null page. -/
def State.entryAddress (s : State) : Word :=
  let a := BitVec.ofNat 64 (max 0x10000 ((s.cfg.nullPageSize + 1) / 2 * 2))
  if a = s.cfg.endSimPc then a + 2 else a

/-- Bytes stored one after the other. -/
def Memory.writeBytes (m : Memory) (a : Word) : List Byte → Memory
  | [] => m
  | b :: rest => Memory.writeBytes (Memory.write m a.toNat b) (a + 1) rest

/-- `s` running, with the instruction of the table's bits `w` at its `pc`: at the `pc` it has, if a step can fetch there,
else at a fresh entry address; its bytes are allocated, no other hart moves, and a breakpoint or the count threshold there is
skipped. -/
def State.placeFetchWord (s : State) (nbits w : Nat) : State :=
  let pc := if s.fetchable s.pc then s.pc else s.entryAddress
  let own := (List.range 4).map fun i => ((pc + BitVec.ofNat 64 i).toNat, (pc + BitVec.ofNat 64 i).toNat + 1)
  let s1 := { s with
    pc := pc, run := .running, attached := true, schedule := []
    allocated := if s.backed pc 4 then s.allocated else own ++ s.allocated
    mem := Memory.writeBytes s.mem pc (tableWordBytes nbits w) }
  if s1.stopCause s1.resumeSkip = none then s1 else { s1 with resumeSkip := true }

end Sys2Proof.Machine
end

