-- ==== Sys2Proof/Machine/Environment.lean ====
section
/-! DEFINITION. What the environment may do to a hart that is not Running (spec/60_exceptions.md rules R590, R592;
spec/70_reset_and_hazards.md rules R600 to R605). None of it is part of a step; each act is on the hart in front
(`State.swapHart` brings another to the front) and does nothing while that hart is Running (log entry 19). -/

namespace Sys2Proof.Machine

/-- The stack pointer aligned down to `STACK_ALIGN` (spec/70_reset_and_hazards.md rule R602). -/
def alignDown (cfg : Config) (a : Word) : Word := (a >>> Nat.log2 cfg.stackAlign) <<< Nat.log2 cfg.stackAlign

/-- `x[r], x[r+1], ... <- args` for registers up to `x31`. -/
def State.setArgs (s : State) : Nat → List Word → State
  | _, [] => s
  | r, v :: rest => State.setArgs (s.writeX (BitVec.ofNat 5 r) v) (r + 1) rest

/-- Doublewords stored ascending from `a`. -/
def Memory.writeDoublewords (m : Memory) (a : Word) : List Word → Memory
  | [] => m
  | v :: rest => Memory.writeDoublewords (Memory.writeLE m a 8 v) (a + 8) rest

/-- What `Launch(h, entry, args)` does to a halted hart (rule R602). -/
def State.launched (s : State) (entry : Word) (args : List Word) : State :=
  let onStack := args.drop 8
  let sp' := alignDown s.cfg (s.readX sp - 8 * BitVec.ofNat 64 onStack.length)
  let s1 := s.setArgs 10 (args.take 8)
  let s2 := { s1 with mem := Memory.writeDoublewords s1.mem sp' onStack }
  { (s2.writeX sp sp').writeX ra s.cfg.endSimPc with pc := entry, run := .running, resumeSkip := false }

/-- `Launch(h, entry, args)` (rule R602). -/
def State.launch (entry : Word) (args : List Word) : State → State := State.whileHalted fun s => s.launched entry args

/-- `LaunchFP(h, entry, d0, d1)` (rule R602). -/
def State.launchFp (entry d0 d1 : Word) : State → State :=
  State.whileHalted fun s => ((s.launched entry []).writeF 10 d0).writeF 11 d1

/-! ### Reading and writing a halted hart (spec/60_exceptions.md rule R590): what may be read is what the fields hold -/

/-- A piece of state the environment writes, with its value: a register, `pc`, `fcsr` (its implemented bits), `icount`, a byte of
memory. -/
inductive EnvWrite where
  | x (r : Reg) (v : Word)
  | f (r : Reg) (v : Word)
  | pc (v : Word)
  | fcsr (v : Word)
  | icount (v : Word)
  | mem (addr : Word) (v : Byte)
  deriving DecidableEq, Repr

/-- What a write of the environment changes. -/
def State.written (s : State) : EnvWrite → State
  | .x r v => s.writeX r v
  | .f r v => s.writeF r v
  | .pc v => { s with pc := v }
  | .fcsr v => { s with fcsr := v.setWidth 8 }
  | .icount v => { s with icount := v }
  | .mem a v => { s with mem := Memory.write s.mem a.toNat v }

/-- The environment writes a piece of state of a halted hart, or memory while it is halted (rule R590). -/
def State.envWrite (w : EnvWrite) : State → State := State.whileHalted fun s => s.written w

/-- The environment changes which addresses are backed by storage (spec/20_memory.md rule R81). -/
def State.allocate (ranges : List Range) : State → State := State.whileHalted fun s => { s with allocated := ranges }

/-- A breakpoint is added, permanent or temporary (spec/60_exceptions.md rule R588). That it goes to the end of the set and starts
enabled is the model's choice: DESIGN CHOICE, unsafe (log entry 25). -/
def State.addBreakpoint (addr : Word) (temporary : Bool) : State → State := State.whileHalted fun s =>
  { s with breakpoints := s.breakpoints ++ [{ addr := addr, enabled := true, temporary := temporary }] }

/-- The entries at an address are toggled (spec/60_exceptions.md rule R588). That all entries which share the address are flipped,
and not one of them, is the model's choice: DESIGN CHOICE, unsafe (log entry 25). -/
def State.toggleBreakpoint (addr : Word) : State → State := State.whileHalted fun s =>
  { s with breakpoints := s.breakpoints.map fun b => if b.addr = addr then { b with enabled := !b.enabled } else b }

/-! ### The runtime-call bridge (spec/60_exceptions.md rule R592) -/

/-- The integer arguments of a runtime call (rule R592 step 2): `x10` to `x17`, then the two doublewords at `x2`. -/
def State.callArguments (s : State) : List Word :=
  [s.readX 10, s.readX 11, s.readX 12, s.readX 13, s.readX 14, s.readX 15, s.readX 16, s.readX 17,
    s.load (s.readX sp) 8, s.load (s.readX sp + 8) 8]

/-- The floating-point arguments of a runtime call (rule R592 step 2): `f10`, `f11`. -/
def State.callFpArguments (s : State) : List Word := [s.readF 10, s.readF 11]

/-- The kinds of runtime call that deliver a result (rule R592 step 4). -/
inductive CallKind where
  /-- The result in `x10`. -/
  | plain (a0 : Word)
  /-- The results in `x10` and `x11`. -/
  | paired (a0 a1 : Word)
  /-- The result in `f10`. -/
  | double (fa0 : Word)
  /-- No result. -/
  | noResult
  deriving DecidableEq, Repr

/-- What a host function leaves behind where the contract promises nothing: any registers, flags, bytes of memory written in
turn, and allocated set (rules R592, R81). -/
structure HostEffect where
  x : Vector Word 32
  f : Vector Word 32
  fflags : BitVec 5
  writes : List (Word × Byte)
  allocated : List Range
  deriving DecidableEq, Repr

/-- The integer registers unchanged across an ECALL, `x10` and `x11` apart from their results (rule R592). -/
def preservedX (r : Nat) : Bool := r ≤ 4 || r == 8 || r == 9 || r == 10 || r == 11 || (18 ≤ r && r ≤ 27)

/-- The floating-point registers unchanged across an ECALL, `f10` apart from its result (rule R592). -/
def preservedF (r : Nat) : Bool := r == 8 || r == 9 || r == 10 || (18 ≤ r && r ≤ 27)

/-- Memory after a host function's writes. -/
def HostEffect.memory (e : HostEffect) (m : Memory) : Memory :=
  e.writes.foldl (fun m w => Memory.write m w.1.toNat w.2) m

/-- The state in which the hart goes on after the bridge has served its ECALL (rule R592): the contract's registers, `frm` and
the monitors unchanged, the result written, `pc` the return address `x1`; all else as `e` says. -/
def State.served (s : State) (kind : CallKind) (e : HostEffect) : State :=
  let s1 := { s with
    x := Vector.ofFn fun r => if preservedX r.val then s.x[r] else e.x[r]
    f := Vector.ofFn fun r => if preservedF r.val then s.f[r] else e.f[r]
    fcsr := frmOf s.fcsr ++ e.fflags
    mem := e.memory s.mem
    allocated := e.allocated }
  let s2 := match kind with
    | .plain a0 => s1.writeX 10 a0
    | .paired a0 a1 => (s1.writeX 10 a0).writeX 11 a1
    | .double fa0 => s1.writeF 10 fa0
    | .noResult => s1
  State.resume false { s2 with pc := s.readX ra }

/-- The bridge serves the ECALL at which the hart in front has halted (rule R592); it serves no other halt. -/
def State.bridgeReturn (kind : CallKind) (e : HostEffect) (s : State) : State :=
  match s.run with
  | .halted .environmentCall _ => State.whileHalted (fun s => s.served kind e) s
  | _ => s

/-! ### Creating and destroying harts (spec/70_reset_and_hazards.md rule R600, spec/49_atomics_monitor.md rule R527) -/

/-- The harts of the system, the one that moves first: each with its one Global Monitor record. -/
def State.allHarts (s : State) : List Hart := s.front ++ s.harts

/-- `Attach(h)`: hart `id` is created, with its record. No identifier is attached twice and no more than `NUM_HARTS` harts are
(spec/60_exceptions.md rule R583): then nothing happens (DEDUCED, safe: log entry 20). Where no hart is, it comes to the front; else beside the others. -/
def State.attach (id : Nat) (s : State) : State :=
  if id ∈ s.allHarts.map Hart.hartId ∨ s.cfg.numHarts ≤ s.allHarts.length then s
  else if s.attached then { s with harts := s.harts ++ [Hart.reset id] }
  else { s with toHart := Hart.reset id, attached := true }

/-- The hart in front is destroyed: the next one comes to the front, if there is one (DESIGN CHOICE, safe: log entry 26). -/
def State.detachFront (s : State) : State :=
  match s.harts with
  | h :: rest => { s with toHart := h, harts := rest }
  | [] => { s with toHart := Hart.reset s.hartId, attached := false }

/-- `Detach(h)`: hart `id` is destroyed, with its record; the other records are unchanged. -/
def State.detach (id : Nat) (s : State) : State :=
  if s.attached = true ∧ id = s.hartId then s.detachFront else { s with harts := s.harts.filter fun h => h.hartId != id }

end Sys2Proof.Machine
end

