-- ==== Sys2Proof/Safety.lean ====
section
/-! DEFINITION. What counts as a good state and a safe run, and the terms the claims use: the classes of instructions, the
shapes of completion with their frames, exact values as rationals. -/

namespace Sys2Proof.Machine

/-- What holds of a hart between steps: `pc` even (spec/10_state.md rule R36), `pc_modified` clear (rule R35), the count of
successes within the period (spec/49_atomics_monitor.md rule R530), and a pending Local Monitor at the address of the hart's
Global Monitor record (rules R524, R528). -/
structure Hart.Ok (cfg : Config) (h : Hart) : Prop where
  pcEven : h.pc.getLsbD 0 = false
  pcClear : h.pcModified = false
  failCount : h.gm.failCount ≤ cfg.scForcedFailPeriod
  reservation : ∀ a size, h.lm = .rmw a size → h.gm.addr = a

/-- What holds of the system between steps: memory in its canonical form, every hart `Ok`, no identifier twice, no more harts
than `NUM_HARTS` (spec/60_exceptions.md rule R583). -/
structure State.Ok (s : State) : Prop where
  memory : Memory.wf s.mem = true
  harts : ∀ h ∈ s.allHarts, h.Ok s.cfg
  ids : (s.allHarts.map Hart.hartId).Nodup
  count : s.allHarts.length ≤ s.cfg.numHarts

/-- The hart has stopped with a fatal cause (spec/60_exceptions.md rule R560). -/
def Run.fatal : Run → Bool
  | .running => false
  | .halted cause _ => cause.fatal

/-- The hart that moves has not stopped with a fatal cause: what a program must achieve (spec/60_exceptions.md rule R561). -/
def State.safe (s : State) : Bool := !s.run.fatal

/-! ### Classes of instructions -/

/-- Writes memory (spec/20_memory.md rule R82). -/
def storing : Instr → Bool
  | .sb .. | .sh .. | .sw .. | .sd .. | .fsw .. | .fsd .. => true
  | .cSw .. | .cSd .. | .cFsd .. | .cSwsp .. | .cSdsp .. | .cFsdsp .. => true
  | .scW .. | .scD .. => true
  | .amoswapW .. | .amoaddW .. | .amoxorW .. | .amoandW .. | .amoorW .. => true
  | .amominW .. | .amomaxW .. | .amominuW .. | .amomaxuW .. => true
  | .amoswapD .. | .amoaddD .. | .amoxorD .. | .amoandD .. | .amoorD .. => true
  | .amominD .. | .amomaxD .. | .amominuD .. | .amomaxuD .. => true
  | _ => false

/-- A load-linked (spec/49_atomics_monitor.md section 4). -/
def loadLinking : Instr → Bool
  | .lrW .. | .lrD .. => true
  | _ => false

/-- Makes a data access (spec/20_memory.md rule R82). -/
def accessing : Instr → Bool
  | .lb .. | .lh .. | .lw .. | .ld .. | .lbu .. | .lhu .. | .lwu .. | .flw .. | .fld .. => true
  | .cLw .. | .cLd .. | .cFld .. | .cLwsp .. | .cLdsp .. | .cFldsp .. => true
  | i => storing i || loadLinking i

/-- Transfers control: may write `pc` (spec/41_control_transfer.md, spec/44_compressed.md). -/
def transferring : Instr → Bool
  | .jal .. | .jalr .. | .beq .. | .bne .. | .blt .. | .bge .. | .bltu .. | .bgeu .. => true
  | .cJ .. | .cJr .. | .cJalr .. | .cBeqz .. | .cBnez .. => true
  | _ => false

/-- A CSR instruction (spec/43_csr_system.md section 1). -/
def csrAccessing : Instr → Bool
  | .csrrw .. | .csrrs .. | .csrrc .. | .csrrwi .. | .csrrsi .. | .csrrci .. => true
  | _ => false

/-- A computational floating-point instruction: one of the opcodes OP-FP, FMADD, FMSUB, FNMSUB, FNMADD
(spec/30_encoding.md rule R138). -/
def floatComputing (i : Instr) : Bool :=
  match i.row.pattern.extractLsb' 0 7 with
  | 0b1010011 | 0b1000011 | 0b1000111 | 0b1001011 | 0b1001111 => true
  | _ => false

/-- The rounding-mode field of an instruction that has one (spec/45_fp_primitives.md rule R372). -/
def rmField : Instr → Option (BitVec 3)
  | .fmaddS _ _ _ _ rm | .fmsubS _ _ _ _ rm | .fnmsubS _ _ _ _ rm | .fnmaddS _ _ _ _ rm => some rm
  | .fmaddD _ _ _ _ rm | .fmsubD _ _ _ _ rm | .fnmsubD _ _ _ _ rm | .fnmaddD _ _ _ _ rm => some rm
  | .faddS _ _ _ rm | .fsubS _ _ _ rm | .fmulS _ _ _ rm | .fdivS _ _ _ rm | .fsqrtS _ _ rm => some rm
  | .faddD _ _ _ rm | .fsubD _ _ _ rm | .fmulD _ _ _ rm | .fdivD _ _ _ rm | .fsqrtD _ _ rm => some rm
  | .fcvtWS _ _ rm | .fcvtWuS _ _ rm | .fcvtLS _ _ rm | .fcvtLuS _ _ rm => some rm
  | .fcvtWD _ _ rm | .fcvtWuD _ _ rm | .fcvtLD _ _ rm | .fcvtLuD _ _ rm => some rm
  | .fcvtSW _ _ rm | .fcvtSWu _ _ rm | .fcvtSL _ _ rm | .fcvtSLu _ _ rm => some rm
  | .fcvtDW _ _ rm | .fcvtDWu _ _ rm | .fcvtDL _ _ rm | .fcvtDLu _ _ rm => some rm
  | .fcvtSD _ _ rm | .fcvtDS _ _ rm => some rm
  | _ => none

/-- The data access an instruction makes: whether it is an atomic one, its start address and its size in bytes
(spec/20_memory.md rule R93). -/
def dataAccess (s : State) : Instr → Option (Bool × Word × Nat)
  | .lb _ b i | .lbu _ b i | .sb _ b i => some (false, s.ea b (sext i), 1)
  | .lh _ b i | .lhu _ b i | .sh _ b i => some (false, s.ea b (sext i), 2)
  | .lw _ b i | .lwu _ b i | .sw _ b i | .flw _ b i | .fsw _ b i => some (false, s.ea b (sext i), 4)
  | .ld _ b i | .sd _ b i | .fld _ b i | .fsd _ b i => some (false, s.ea b (sext i), 8)
  | .cLw _ b u | .cSw _ b u => some (false, s.ea (cReg b) (zext u), 4)
  | .cLd _ b u | .cSd _ b u | .cFld _ b u | .cFsd _ b u => some (false, s.ea (cReg b) (zext u), 8)
  | .cLwsp _ u | .cSwsp _ u => some (false, s.ea sp (zext u), 4)
  | .cLdsp _ u | .cSdsp _ u | .cFldsp _ u | .cFsdsp _ u => some (false, s.ea sp (zext u), 8)
  | .lrW _ b _ _ | .scW _ _ b _ _ => some (true, s.readX b, 4)
  | .amoswapW _ _ b _ _ | .amoaddW _ _ b _ _ | .amoxorW _ _ b _ _ | .amoandW _ _ b _ _ => some (true, s.readX b, 4)
  | .amoorW _ _ b _ _ | .amominW _ _ b _ _ | .amomaxW _ _ b _ _ => some (true, s.readX b, 4)
  | .amominuW _ _ b _ _ | .amomaxuW _ _ b _ _ => some (true, s.readX b, 4)
  | .lrD _ b _ _ | .scD _ _ b _ _ => some (true, s.readX b, 8)
  | .amoswapD _ _ b _ _ | .amoaddD _ _ b _ _ | .amoxorD _ _ b _ _ | .amoandD _ _ b _ _ => some (true, s.readX b, 8)
  | .amoorD _ _ b _ _ | .amominD _ _ b _ _ | .amomaxD _ _ b _ _ => some (true, s.readX b, 8)
  | .amominuD _ _ b _ _ | .amomaxuD _ _ b _ _ => some (true, s.readX b, 8)
  | _ => none

/-- The 32-bit instruction a compressed one stands for (spec/44_compressed.md). -/
def expansion : Instr → Option Instr
  | .cAddi4spn rd u => some (.addi (cReg rd) sp (u.setWidth 12))
  | .cFld rd b u => some (.fld (cReg rd) (cReg b) (u.setWidth 12))
  | .cLw rd b u => some (.lw (cReg rd) (cReg b) (u.setWidth 12))
  | .cLd rd b u => some (.ld (cReg rd) (cReg b) (u.setWidth 12))
  | .cFsd r b u => some (.fsd (cReg r) (cReg b) (u.setWidth 12))
  | .cSw r b u => some (.sw (cReg r) (cReg b) (u.setWidth 12))
  | .cSd r b u => some (.sd (cReg r) (cReg b) (u.setWidth 12))
  | .cNop i => some (.addi 0 0 (i.signExtend 12))
  | .cAddi rd i => some (.addi rd rd (i.signExtend 12))
  | .cAddiw rd i => some (.addiw rd rd (i.signExtend 12))
  | .cLi rd i => some (.addi rd 0 (i.signExtend 12))
  | .cAddi16sp i => some (.addi sp sp (i.signExtend 12))
  | .cLui rd i => some (.lui rd (i.signExtend 20))
  | .cSrli rd n => some (.srli (cReg rd) (cReg rd) n)
  | .cSrai rd n => some (.srai (cReg rd) (cReg rd) n)
  | .cAndi rd i => some (.andi (cReg rd) (cReg rd) (i.signExtend 12))
  | .cSub rd r => some (.sub (cReg rd) (cReg rd) (cReg r))
  | .cXor rd r => some (.xor (cReg rd) (cReg rd) (cReg r))
  | .cOr rd r => some (.or (cReg rd) (cReg rd) (cReg r))
  | .cAnd rd r => some (.and (cReg rd) (cReg rd) (cReg r))
  | .cSubw rd r => some (.subw (cReg rd) (cReg rd) (cReg r))
  | .cAddw rd r => some (.addw (cReg rd) (cReg rd) (cReg r))
  | .cJ off => some (.jal 0 (off.signExtend 21))
  | .cBeqz r off => some (.beq (cReg r) 0 (off.signExtend 13))
  | .cBnez r off => some (.bne (cReg r) 0 (off.signExtend 13))
  | .cSlli rd n => some (.slli rd rd n)
  | .cFldsp rd u => some (.fld rd sp (u.setWidth 12))
  | .cLwsp rd u => some (.lw rd sp (u.setWidth 12))
  | .cLdsp rd u => some (.ld rd sp (u.setWidth 12))
  | .cJr r => some (.jalr 0 r 0)
  | .cMv rd r => some (.add rd 0 r)
  | .cEbreak => some .ebreak
  | .cJalr r => some (.jalr ra r 0)
  | .cAdd rd r => some (.add rd rd r)
  | .cFsdsp r u => some (.fsd r sp (u.setWidth 12))
  | .cSwsp r u => some (.sw r sp (u.setWidth 12))
  | .cSdsp r u => some (.sd r sp (u.setWidth 12))
  | _ => none

/-- The bytes in which an instruction is stored, lowest address first (spec/20_memory.md rule R85). -/
def storedBytes (i : Instr) : List Byte := (List.range i.len).map fun k => (encode i).extractLsb' (8 * k) 8

/-! ### Shapes of completion, each with its frame -/

/-- `res` is a next state in which `x[rd]` is a value of which `P` holds (`x0` stays 0), every other register and every other
piece of state as in `s`. -/
def SetsX (res : Result) (s : State) (rd : Reg) (P : Word → Prop) : Prop :=
  ∃ t v, res = .next t ∧ P v ∧ (∀ r, t.readX r = if r = 0 then 0 else if r = rd then v else s.readX r) ∧
    { t with x := s.x } = s

/-- `res` is a next state in which `x[rd]` is `v` and the flags `fl` are added to `fflags`, all else as in `s`. -/
def SetsXFlags (res : Result) (s : State) (rd : Reg) (v : Word) (fl : Flags) : Prop :=
  ∃ t, res = .next t ∧ (∀ r, t.readX r = if r = 0 then 0 else if r = rd then v else s.readX r) ∧
    frmOf t.fcsr = frmOf s.fcsr ∧ fflagsOf t.fcsr = fflagsOf s.fcsr ||| fl ∧ { t with x := s.x, fcsr := s.fcsr } = s

/-- `res` is a next state in which `f[rd]` is `v` and the flags `fl` are added to `fflags`, all else as in `s`. -/
def SetsF (res : Result) (s : State) (rd : Reg) (v : Word) (fl : Flags) : Prop :=
  ∃ t, res = .next t ∧ (∀ r, t.readF r = if r = rd then v else s.readF r) ∧
    frmOf t.fcsr = frmOf s.fcsr ∧ fflagsOf t.fcsr = fflagsOf s.fcsr ||| fl ∧ { t with f := s.f, fcsr := s.fcsr } = s

/-- `res` is a next state in which `x[rd]` is `v` and the Local Monitor is open, all else (every byte of memory too) as in
`s`. -/
def LoadsX (res : Result) (s : State) (rd : Reg) (v : Word) : Prop :=
  ∃ t, res = .next t ∧ (∀ r, t.readX r = if r = 0 then 0 else if r = rd then v else s.readX r) ∧ t.lm = .open ∧
    { t with x := s.x, lm := s.lm } = s

/-- `res` is a next state in which `f[rd]` is `v` and the Local Monitor is open, all else as in `s`. -/
def LoadsF (res : Result) (s : State) (rd : Reg) (v : Word) : Prop :=
  ∃ t, res = .next t ∧ (∀ r, t.readF r = if r = rd then v else s.readF r) ∧ t.lm = .open ∧
    { t with f := s.f, lm := s.lm } = s

/-- Every byte of `m'` is the byte of `m` but for the `n` bytes from `a`, which hold `v` little-endian. -/
def BytesStored (m m' : Memory) (a : Word) (n : Nat) (v : Word) : Prop :=
  ∀ b : Word, Memory.read m' b.toNat =
    if (b - a).toNat < n then (v >>> (8 * (b - a).toNat)).setWidth 8 else Memory.read m b.toNat

/-- Every other hart is as before, but that a reservation on a granule which a write of `n` bytes at `a` touches is open
(spec/49_atomics_monitor.md rules R529, R533). -/
def OthersNotified (s t : State) (a : Word) (n : Nat) : Prop :=
  t.harts = s.harts.map fun h =>
    if h.gm.state = .rmw ∧
        (granule s.cfg h.gm.addr = granule s.cfg a ∨ granule s.cfg h.gm.addr = granule s.cfg (a + BitVec.ofNat 64 n - 1))
    then { h with gm := { h.gm with state := .open } } else h

/-- `res` is a next state in which the `n` bytes from `a` hold `v`, the Local Monitor is open and the other harts are notified,
all else as in `s`. -/
def StoresAt (res : Result) (s : State) (a : Word) (n : Nat) (v : Word) : Prop :=
  ∃ t, res = .next t ∧ BytesStored s.mem t.mem a n v ∧ t.lm = .open ∧ OthersNotified s t a n ∧
    { t with mem := s.mem, lm := s.lm, harts := s.harts } = s

/-- `res` is a next state in which `pc` was written with `target` and `x[rd]` is `link`, all else as in `s`. -/
def JumpsTo (res : Result) (s : State) (target : Word) (rd : Reg) (link : Word) : Prop :=
  ∃ t, res = .next t ∧ t.pc = target ∧ t.pcModified = true ∧
    (∀ r, t.readX r = if r = 0 then 0 else if r = rd then link else s.readX r) ∧
    { t with x := s.x, pc := s.pc, pcModified := s.pcModified } = s

/-- `res` is a next state in which `x[rd]` is `v`, the Local Monitor holds `a` and `size` and the Global Monitor record is
pending at `a`, all else as in `s`. -/
def LinksAt (res : Result) (s : State) (rd : Reg) (v : Word) (a : Word) (size : MonitorSize) : Prop :=
  ∃ t, res = .next t ∧ (∀ r, t.readX r = if r = 0 then 0 else if r = rd then v else s.readX r) ∧ t.lm = .rmw a size ∧
    t.gm = { state := .rmw, addr := a, failCount := s.gm.failCount } ∧ { t with x := s.x, lm := s.lm, gm := s.gm } = s

/-- `res` is a next state in which `x[rd]` is `old`, the `n` bytes from `a` hold `new`, the Local Monitor is open and the other
harts are notified, all else as in `s`. -/
def SwapsAt (res : Result) (s : State) (rd : Reg) (old : Word) (a : Word) (n : Nat) (new : Word) : Prop :=
  ∃ t, res = .next t ∧ (∀ r, t.readX r = if r = 0 then 0 else if r = rd then old else s.readX r) ∧
    BytesStored s.mem t.mem a n new ∧ t.lm = .open ∧ OthersNotified s t a n ∧
    { t with x := s.x, mem := s.mem, lm := s.lm, harts := s.harts } = s

/-- `res` is the next state of a store-conditional that succeeds: as `SwapsAt` with `x[rd]` 0, and the hart's Global Monitor
record is open and counts one more success (spec/49_atomics_monitor.md rule R530). -/
def ConditionallyStores (res : Result) (s : State) (rd : Reg) (a : Word) (n : Nat) (v : Word) : Prop :=
  ∃ t, res = .next t ∧ (∀ r, t.readX r = if r = 0 then 0 else if r = rd then 0 else s.readX r) ∧
    BytesStored s.mem t.mem a n v ∧ t.lm = .open ∧ OthersNotified s t a n ∧
    t.gm = { state := .open, addr := s.gm.addr, failCount := s.gm.failCount + 1 } ∧
    { t with x := s.x, mem := s.mem, lm := s.lm, harts := s.harts, gm := s.gm } = s

/-- `res` is the next state of a store-conditional that fails: `x[rd]` is 1, the Local Monitor is open and the hart's Global
Monitor record is `g`, all else (every byte of memory too) as in `s`. -/
def ConditionallyFails (res : Result) (s : State) (rd : Reg) (g : GmRecord) : Prop :=
  ∃ t, res = .next t ∧ (∀ r, t.readX r = if r = 0 then 0 else if r = rd then 1 else s.readX r) ∧ t.lm = .open ∧
    t.gm = g ∧ { t with x := s.x, lm := s.lm, gm := s.gm } = s

/-- `res` is a next state in which `x[rd]` is `old`, `fflags` is `flags` and `frm` is `frm`, all else as in `s`. -/
def SetsCsr (res : Result) (s : State) (rd : Reg) (old : Word) (flags : BitVec 5) (frm : BitVec 3) : Prop :=
  ∃ t, res = .next t ∧ (∀ r, t.readX r = if r = 0 then 0 else if r = rd then old else s.readX r) ∧
    fflagsOf t.fcsr = flags ∧ frmOf t.fcsr = frm ∧ { t with x := s.x, fcsr := s.fcsr } = s

/-- `res` reads the CSR `csr` into `x[rd]` and gives it the value `new old`, for each of the three CSRs of
spec/10_state.md rule R44. -/
def AccessesCsr (res : Result) (s : State) (rd : Reg) (csr : BitVec 12) (new : Word → Word) : Prop :=
  (csr = 0x001 → SetsCsr res s rd (zext (fflagsOf s.fcsr)) ((new (zext (fflagsOf s.fcsr))).extractLsb' 0 5) (frmOf s.fcsr)) ∧
  (csr = 0x002 → SetsCsr res s rd (zext (frmOf s.fcsr)) (fflagsOf s.fcsr) ((new (zext (frmOf s.fcsr))).extractLsb' 0 3)) ∧
  (csr = 0x003 → SetsCsr res s rd (zext s.fcsr) ((new (zext s.fcsr)).extractLsb' 0 5) ((new (zext s.fcsr)).extractLsb' 5 3))

/-- The byte at `a` is in the allocated set (spec/20_memory.md rule R81). -/
def Allocated (s : State) (a : Word) : Prop := ∃ r ∈ s.allocated, r.1 ≤ a.toNat ∧ a.toNat < r.2

/-- The `n` bytes from `a` are in the allocated set. -/
def AllocatedAll (s : State) (a : Word) (n : Nat) : Prop := ∀ i < n, Allocated s (a + BitVec.ofNat 64 i)

/-- An ordinary access of `n` bytes at `a` passes the block's checks (spec/20_memory.md rule R88). -/
def OrdinaryPasses (s : State) (a : Word) (n : Nat) : Prop :=
  s.cfg.nullPageSize ≤ a.toNat ∧ (s.cfg.requireAlignment = true → a.toNat % n = 0)

/-- An atomic access of `n` bytes at `a` passes the block's checks (spec/49_atomics_monitor.md rule R534). -/
def AtomicPasses (s : State) (a : Word) (n : Nat) : Prop := s.cfg.nullPageSize ≤ a.toNat ∧ a.toNat % n = 0

/-- An ordinary access that passes the block's checks, to allocated bytes. -/
def OrdinaryOk (s : State) (a : Word) (n : Nat) : Prop := OrdinaryPasses s a n ∧ AllocatedAll s a n

/-- An atomic access that passes the block's checks, to allocated bytes. -/
def AtomicOk (s : State) (a : Word) (n : Nat) : Prop := AtomicPasses s a n ∧ AllocatedAll s a n

/-- The hart in front is Running and no stop between instructions applies to it (spec/60_exceptions.md rules R585 to R588). -/
structure State.NoStop (s : State) : Prop where
  running : s.run = .running
  attached : s.attached = true
  sentinel : s.pc ≠ s.cfg.endSimPc
  others : s.resumeSkip = true ∨
    (∀ b ∈ s.breakpoints, b.enabled = true → b.addr ≠ s.pc) ∧ s.cfg.icountStop ≠ some s.icount.toNat

/-- Besides, `pc` passes the checks of a fetch (spec/20_memory.md rule R95): the step reads the instruction there. -/
structure State.Fetches (s : State) : Prop extends s.NoStop where
  even : s.pc.getLsbD 0 = false
  notNull : s.cfg.nullPageSize ≤ s.pc.toNat

/-- A hart after a step of another one: at most its reservation has been opened (spec/49_atomics_monitor.md rules R521, R529). -/
def OnlyReservationOpened (h h' : Hart) : Prop :=
  h' = h ∨ h.gm.state = .rmw ∧ h' = { h with gm := { h.gm with state := .open } }

/-- The byte at `a + i`. -/
def byteAt (s : State) (a : Word) (i : Nat) : Byte := Memory.read s.mem (a + BitVec.ofNat 64 i).toNat

/-- The 16-, 32- and 64-bit little-endian values at `a`. -/
def half (s : State) (a : Word) : BitVec 16 := byteAt s a 1 ++ byteAt s a 0
def word (s : State) (a : Word) : BitVec 32 := byteAt s a 3 ++ byteAt s a 2 ++ byteAt s a 1 ++ byteAt s a 0
def doubleword (s : State) (a : Word) : Word :=
  byteAt s a 7 ++ byteAt s a 6 ++ byteAt s a 5 ++ byteAt s a 4 ++ byteAt s a 3 ++ byteAt s a 2 ++ byteAt s a 1 ++ byteAt s a 0

/-- The rounding-mode field `rm` selects the mode `r` (spec/45_fp_primitives.md rule R372). -/
def RmSelects (s : State) (rm : BitVec 3) (r : RoundingMode) : Prop :=
  RoundingMode.ofBits (if rm = 7 then frmOf s.fcsr else rm) = some r

/-! ### Division (spec/40_integer_compute.md rule R172) -/

/-- `q` is the signed quotient of `a` by `b`, with the two corner cases. -/
def IsQuotient {W : Nat} (a b q : BitVec W) : Prop :=
  if b = 0 then q = BitVec.allOnes W
  else if a.toInt = -2 ^ (W - 1) ∧ b.toInt = -1 then q = a
  else q.toInt = a.toInt.tdiv b.toInt

/-- `r` is the signed remainder of `a` by `b`, with the two corner cases. -/
def IsRemainder {W : Nat} (a b r : BitVec W) : Prop :=
  if b = 0 then r = a
  else if a.toInt = -2 ^ (W - 1) ∧ b.toInt = -1 then r = 0
  else r.toInt = a.toInt - b.toInt * a.toInt.tdiv b.toInt

/-- `q` is the unsigned quotient of `a` by `b`. -/
def IsQuotientU {W : Nat} (a b q : BitVec W) : Prop :=
  if b = 0 then q = BitVec.allOnes W else q.toNat = a.toNat / b.toNat

/-- `r` is the unsigned remainder of `a` by `b`. -/
def IsRemainderU {W : Nat} (a b r : BitVec W) : Prop := if b = 0 then r = a else r.toNat = a.toNat % b.toNat

/-! ### Exact values as rationals -/

/-- The rational number an exact value denotes. -/
def Exact.toRat (x : Exact) : ℚ := x.num / x.den

/-- The value of a finite pattern as a rational number (spec/45_fp_primitives.md rule R370). -/
def Fmt.ratValue (F : Fmt) (a : F.Pattern) : ℚ := (F.value a).toRat

/-- Neither infinite nor a NaN. -/
def Fmt.finite (F : Fmt) (a : F.Pattern) : Bool := !F.isNan a && !F.isInf a

end Sys2Proof.Machine
end

