-- ==== Sys2Proof/Certificates/Slice0/Obligations.lean ====
section
/-! DEFINITION. The statements for the provers, each over every state unless it names one; the rule of spec/ a statement follows
stands in its docstring. -/

open Sys2Proof Sys2Proof.Machine

/-! ### Encoding -/

/-- Every well-formed instruction, stored in memory order, is decoded to itself, whatever follows it (spec/30_encoding.md rules
R120, R123, R142, R143; spec/20_memory.md rule R85). -/
def Obligations.EncodedInstructionDecodes : Prop :=
  ∀ (i : Instr) (rest : List Byte), i.wf = true → decode (storedBytes i ++ rest) = .ok (i, rest)

/-- Every fetched word that decodes has one meaning: it is the encoding of the instruction it decodes to, whose operands are
ones its encoding can hold and whose length the two low bits announce (spec/30_encoding.md rules R120, R121, R148). -/
def Obligations.DecodedWordIsEncoding : Prop :=
  ∀ (w : BitVec 32) (i : Instr), decodeInst w = .ok i →
    i.wf = true ∧ encode i = (if w.extractLsb' 0 2 = 0b11#2 then w else (w.extractLsb' 0 16).setWidth 32) ∧
      i.len = if w.extractLsb' 0 2 = 0b11#2 then 4 else 2

/-- Words of the spec's own examples decode to the instructions they are given for (spec/40_integer_compute.md rule R175,
spec/41_control_transfer.md rule R253, spec/42_load_store_fence.md rule R282, spec/43_csr_system.md rule R302,
spec/44_compressed.md rule R332, spec/46_fp_single.md rule R429, spec/47_fp_double.md rule R462,
spec/49_atomics_monitor.md rule R543). -/
def Obligations.ExampleWordsDecode : Prop :=
  decodeTableWord 32 0x00500093 = some (.addi 1 0 5) ∧
  decodeTableWord 32 0xFFDFF06F = some (.jal 0 0x1FFFFC) ∧
  decodeTableWord 32 0xFE732C23 = some (.sw 7 6 0xFF8) ∧
  decodeTableWord 32 0x003312F3 = some (.csrrw 5 3 6) ∧
  decodeTableWord 16 0x7139 = some (.cAddi16sp 0x3C0) ∧
  decodeTableWord 32 0x183170D3 = some (.fdivS 1 2 3 7) ∧
  decodeTableWord 32 0x223170C3 = some (.fmaddD 1 2 3 4 7) ∧
  decodeTableWord 32 0x007322AF = some (.amoaddW 5 7 6 0 0)

/-- A compressed instruction has exactly the effect of its expansion, but for the link value of C.JALR (spec/44_compressed.md
rule R320; the length is `Instr.len`). -/
def Obligations.CompressedIsExpansion : Prop :=
  (∀ (c i : Instr) (s : State), expansion c = some i → (∀ r, c ≠ .cJalr r) → exec c s = exec i s) ∧
  (∀ (c i : Instr), expansion c = some i → c.len = 2 ∧ i.len = 4) ∧
  (∀ (r : Reg) (s : State), JumpsTo (exec (.cJalr r) s) s (clearBit0 (s.readX r)) ra (s.pc + 2) ∧
    JumpsTo (exec (.jalr ra r 0) s) s (clearBit0 (s.readX r)) ra (s.pc + 4))

/-! ### Integer computation -/

/-- LUI, AUIPC and the register-immediate instructions (spec/40_integer_compute.md rules R173 to R183). Every form completes in
every state. -/
def Obligations.ImmediateInstructions : Prop :=
  ∀ (s : State) (rd rs1 : Reg) (imm20 : BitVec 20) (imm : BitVec 12) (sh : BitVec 6),
    SetsX (exec (.lui rd imm20) s) s rd (fun v => v.toInt = imm20.toInt * 2 ^ 12) ∧
    SetsX (exec (.auipc rd imm20) s) s rd (fun v => (v.toNat : Int) = (s.pc.toNat + imm20.toInt * 2 ^ 12) % 2 ^ 64) ∧
    SetsX (exec (.addi rd rs1 imm) s) s rd (fun v => (v.toNat : Int) = ((s.readX rs1).toNat + imm.toInt) % 2 ^ 64) ∧
    SetsX (exec (.slti rd rs1 imm) s) s rd (fun v => v = if (s.readX rs1).toInt < imm.toInt then 1 else 0) ∧
    SetsX (exec (.sltiu rd rs1 imm) s) s rd
      (fun v => v = if ((s.readX rs1).toNat : Int) < imm.toInt % 2 ^ 64 then 1 else 0) ∧
    SetsX (exec (.xori rd rs1 imm) s) s rd
      (fun v => ∀ k < 64, v.getLsbD k = ((s.readX rs1).getLsbD k ^^ imm.getLsbD (min k 11))) ∧
    SetsX (exec (.ori rd rs1 imm) s) s rd
      (fun v => ∀ k < 64, v.getLsbD k = ((s.readX rs1).getLsbD k || imm.getLsbD (min k 11))) ∧
    SetsX (exec (.andi rd rs1 imm) s) s rd
      (fun v => ∀ k < 64, v.getLsbD k = ((s.readX rs1).getLsbD k && imm.getLsbD (min k 11))) ∧
    SetsX (exec (.slli rd rs1 sh) s) s rd (fun v => v.toNat = (s.readX rs1).toNat * 2 ^ sh.toNat % 2 ^ 64) ∧
    SetsX (exec (.srli rd rs1 sh) s) s rd (fun v => v.toNat = (s.readX rs1).toNat / 2 ^ sh.toNat) ∧
    SetsX (exec (.srai rd rs1 sh) s) s rd (fun v => v.toInt = (s.readX rs1).toInt / 2 ^ sh.toNat)

/-- The register-register instructions of OP (spec/40_integer_compute.md rules R184 to R193; shift amounts: rule R171). -/
def Obligations.RegisterInstructions : Prop :=
  ∀ (s : State) (rd rs1 rs2 : Reg),
    SetsX (exec (.add rd rs1 rs2) s) s rd (fun v => v.toNat = ((s.readX rs1).toNat + (s.readX rs2).toNat) % 2 ^ 64) ∧
    SetsX (exec (.sub rd rs1 rs2) s) s rd
      (fun v => (v.toNat : Int) = ((s.readX rs1).toNat - (s.readX rs2).toNat : Int) % 2 ^ 64) ∧
    SetsX (exec (.sll rd rs1 rs2) s) s rd
      (fun v => v.toNat = (s.readX rs1).toNat * 2 ^ ((s.readX rs2).toNat % 64) % 2 ^ 64) ∧
    SetsX (exec (.slt rd rs1 rs2) s) s rd (fun v => v = if (s.readX rs1).toInt < (s.readX rs2).toInt then 1 else 0) ∧
    SetsX (exec (.sltu rd rs1 rs2) s) s rd (fun v => v = if (s.readX rs1).toNat < (s.readX rs2).toNat then 1 else 0) ∧
    SetsX (exec (.xor rd rs1 rs2) s) s rd
      (fun v => ∀ k < 64, v.getLsbD k = ((s.readX rs1).getLsbD k ^^ (s.readX rs2).getLsbD k)) ∧
    SetsX (exec (.srl rd rs1 rs2) s) s rd (fun v => v.toNat = (s.readX rs1).toNat / 2 ^ ((s.readX rs2).toNat % 64)) ∧
    SetsX (exec (.sra rd rs1 rs2) s) s rd (fun v => v.toInt = (s.readX rs1).toInt / 2 ^ ((s.readX rs2).toNat % 64)) ∧
    SetsX (exec (.or rd rs1 rs2) s) s rd
      (fun v => ∀ k < 64, v.getLsbD k = ((s.readX rs1).getLsbD k || (s.readX rs2).getLsbD k)) ∧
    SetsX (exec (.and rd rs1 rs2) s) s rd
      (fun v => ∀ k < 64, v.getLsbD k = ((s.readX rs1).getLsbD k && (s.readX rs2).getLsbD k))

/-- The word instructions: on the low 32 bits, the 32-bit result sign-extended (spec/40_integer_compute.md rules R194 to
R202). -/
def Obligations.WordInstructions : Prop :=
  ∀ (s : State) (rd rs1 rs2 : Reg) (imm : BitVec 12) (sh : BitVec 5),
    SetsX (exec (.addiw rd rs1 imm) s) s rd (fun v => v.toInt = Int.bmod ((s.readX rs1).toInt + imm.toInt) (2 ^ 32)) ∧
    SetsX (exec (.slliw rd rs1 sh) s) s rd
      (fun v => v.toInt = Int.bmod ((lo32 (s.readX rs1)).toNat * 2 ^ sh.toNat) (2 ^ 32)) ∧
    SetsX (exec (.srliw rd rs1 sh) s) s rd
      (fun v => v.toInt = Int.bmod ((lo32 (s.readX rs1)).toNat / 2 ^ sh.toNat) (2 ^ 32)) ∧
    SetsX (exec (.sraiw rd rs1 sh) s) s rd (fun v => v.toInt = (lo32 (s.readX rs1)).toInt / 2 ^ sh.toNat) ∧
    SetsX (exec (.addw rd rs1 rs2) s) s rd
      (fun v => v.toInt = Int.bmod ((s.readX rs1).toInt + (s.readX rs2).toInt) (2 ^ 32)) ∧
    SetsX (exec (.subw rd rs1 rs2) s) s rd
      (fun v => v.toInt = Int.bmod ((s.readX rs1).toInt - (s.readX rs2).toInt) (2 ^ 32)) ∧
    SetsX (exec (.sllw rd rs1 rs2) s) s rd
      (fun v => v.toInt = Int.bmod ((lo32 (s.readX rs1)).toNat * 2 ^ ((s.readX rs2).toNat % 32)) (2 ^ 32)) ∧
    SetsX (exec (.srlw rd rs1 rs2) s) s rd
      (fun v => v.toInt = Int.bmod ((lo32 (s.readX rs1)).toNat / 2 ^ ((s.readX rs2).toNat % 32)) (2 ^ 32)) ∧
    SetsX (exec (.sraw rd rs1 rs2) s) s rd
      (fun v => v.toInt = (lo32 (s.readX rs1)).toInt / 2 ^ ((s.readX rs2).toNat % 32))

/-- The multiplications, against the exact product (spec/40_integer_compute.md rules R203 to R206, R210). -/
def Obligations.MultiplyInstructions : Prop :=
  ∀ (s : State) (rd rs1 rs2 : Reg),
    SetsX (exec (.mul rd rs1 rs2) s) s rd (fun v => v.toNat = (s.readX rs1).toNat * (s.readX rs2).toNat % 2 ^ 64) ∧
    SetsX (exec (.mulh rd rs1 rs2) s) s rd (fun v => v.toInt = (s.readX rs1).toInt * (s.readX rs2).toInt / 2 ^ 64) ∧
    SetsX (exec (.mulhsu rd rs1 rs2) s) s rd (fun v => v.toInt = (s.readX rs1).toInt * (s.readX rs2).toNat / 2 ^ 64) ∧
    SetsX (exec (.mulhu rd rs1 rs2) s) s rd (fun v => v.toNat = (s.readX rs1).toNat * (s.readX rs2).toNat / 2 ^ 64) ∧
    SetsX (exec (.mulw rd rs1 rs2) s) s rd
      (fun v => v.toInt = Int.bmod ((lo32 (s.readX rs1)).toInt * (lo32 (s.readX rs2)).toInt) (2 ^ 32))

/-- The divisions and remainders with their corner cases: none traps (spec/40_integer_compute.md rules R207 to R209, R211 to
R215). -/
def Obligations.DivideInstructions : Prop :=
  ∀ (s : State) (rd rs1 rs2 : Reg),
    SetsX (exec (.div rd rs1 rs2) s) s rd (IsQuotient (s.readX rs1) (s.readX rs2)) ∧
    SetsX (exec (.divu rd rs1 rs2) s) s rd (IsQuotientU (s.readX rs1) (s.readX rs2)) ∧
    SetsX (exec (.rem rd rs1 rs2) s) s rd (IsRemainder (s.readX rs1) (s.readX rs2)) ∧
    SetsX (exec (.remu rd rs1 rs2) s) s rd (IsRemainderU (s.readX rs1) (s.readX rs2)) ∧
    SetsX (exec (.divw rd rs1 rs2) s) s rd
      (fun v => ∃ q : BitVec 32, IsQuotient (lo32 (s.readX rs1)) (lo32 (s.readX rs2)) q ∧ v.toInt = q.toInt) ∧
    SetsX (exec (.divuw rd rs1 rs2) s) s rd
      (fun v => ∃ q : BitVec 32, IsQuotientU (lo32 (s.readX rs1)) (lo32 (s.readX rs2)) q ∧ v.toInt = q.toInt) ∧
    SetsX (exec (.remw rd rs1 rs2) s) s rd
      (fun v => ∃ r : BitVec 32, IsRemainder (lo32 (s.readX rs1)) (lo32 (s.readX rs2)) r ∧ v.toInt = r.toInt) ∧
    SetsX (exec (.remuw rd rs1 rs2) s) s rd
      (fun v => ∃ r : BitVec 32, IsRemainderU (lo32 (s.readX rs1)) (lo32 (s.readX rs2)) r ∧ v.toInt = r.toInt)

/-- Off the corner cases, dividend = divisor * quotient + remainder with |remainder| < |divisor| and the remainder has the sign
of the dividend, at both widths; and the corner cases (spec/40_integer_compute.md rule R172; that the instructions compute these
functions: `DivideInstructions`). -/
def Obligations.DivisionLaw : Prop :=
  ∀ W, W = 32 ∨ W = 64 → ∀ a b : BitVec W,
    (b ≠ 0 → ¬(a.toInt = -2 ^ (W - 1) ∧ b.toInt = -1) →
      a.toInt = b.toInt * (divSigned a b).toInt + (remSigned a b).toInt ∧
      (remSigned a b).toInt.natAbs < b.toInt.natAbs ∧
      (0 ≤ a.toInt → 0 ≤ (remSigned a b).toInt) ∧ (a.toInt ≤ 0 → (remSigned a b).toInt ≤ 0)) ∧
    (b ≠ 0 → a.toNat = b.toNat * (divUnsigned a b).toNat + (remUnsigned a b).toNat ∧ (remUnsigned a b).toNat < b.toNat) ∧
    (b = 0 → divSigned a b = BitVec.allOnes W ∧ divUnsigned a b = BitVec.allOnes W ∧
      remSigned a b = a ∧ remUnsigned a b = a) ∧
    (a.toInt = -2 ^ (W - 1) → b.toInt = -1 → divSigned a b = a ∧ remSigned a b = 0)

/-! ### Control transfer -/

/-- JAL, JALR and the conditional branches: the target, the link, and nothing else; a branch that is not taken writes nothing
(spec/41_control_transfer.md rules R253 to R260). -/
def Obligations.TransferInstructions : Prop :=
  ∀ (s : State) (rd rs1 rs2 : Reg) (off : BitVec 21) (imm : BitVec 12) (off13 : BitVec 13),
    let a := s.readX rs1
    let b := s.readX rs2
    let taken : State := { s with pc := BitVec.ofInt 64 (s.pc.toNat + off13.toInt), pcModified := true }
    JumpsTo (exec (.jal rd off) s) s (BitVec.ofInt 64 (s.pc.toNat + off.toInt)) rd (s.pc + 4) ∧
    JumpsTo (exec (.jalr rd rs1 imm) s) s (BitVec.ofInt 64 ((a.toNat + imm.toInt) / 2 * 2)) rd (s.pc + 4) ∧
    exec (.beq rs1 rs2 off13) s = .next (if a = b then taken else s) ∧
    exec (.bne rs1 rs2 off13) s = .next (if a ≠ b then taken else s) ∧
    exec (.blt rs1 rs2 off13) s = .next (if a.toInt < b.toInt then taken else s) ∧
    exec (.bge rs1 rs2 off13) s = .next (if a.toInt ≥ b.toInt then taken else s) ∧
    exec (.bltu rs1 rs2 off13) s = .next (if a.toNat < b.toNat then taken else s) ∧
    exec (.bgeu rs1 rs2 off13) s = .next (if a.toNat ≥ b.toNat then taken else s)

/-- Only the jumps and branches write `pc`, and no target of theirs is odd (spec/41_control_transfer.md rules R250, R251;
spec/10_state.md rules R35, R36). -/
def Obligations.TransfersWriteEvenPc : Prop :=
  ∀ (i : Instr) (s t : State), exec i s = .next t →
    (transferring i = false → t.pc = s.pc ∧ t.pcModified = s.pcModified) ∧
    (i.wf = true → s.pc.getLsbD 0 = false → t.pc.getLsbD 0 = false)

/-! ### Loads, stores, fences -/

/-- The loads, when the access passes its checks: extension of the integer loads, a single boxed, a double raw; the register and
the Local Monitor change and nothing else (spec/42_load_store_fence.md rules R273 to R279, spec/46_fp_single.md rule R420,
spec/47_fp_double.md rule R460; the address `State.ea`: `StoreInstructions`). -/
def Obligations.LoadInstructions : Prop :=
  ∀ (s : State) (rd rs1 : Reg) (imm : BitVec 12), let a := s.ea rs1 (sext imm)
    (OrdinaryOk s a 1 → LoadsX (exec (.lb rd rs1 imm) s) s rd (sext (byteAt s a 0)) ∧
      LoadsX (exec (.lbu rd rs1 imm) s) s rd (zext (byteAt s a 0))) ∧
    (OrdinaryOk s a 2 → LoadsX (exec (.lh rd rs1 imm) s) s rd (sext (half s a)) ∧
      LoadsX (exec (.lhu rd rs1 imm) s) s rd (zext (half s a))) ∧
    (OrdinaryOk s a 4 → LoadsX (exec (.lw rd rs1 imm) s) s rd (sext (word s a)) ∧
      LoadsX (exec (.lwu rd rs1 imm) s) s rd (zext (word s a)) ∧
      LoadsF (exec (.flw rd rs1 imm) s) s rd (0xFFFFFFFF#32 ++ word s a)) ∧
    (OrdinaryOk s a 8 → LoadsX (exec (.ld rd rs1 imm) s) s rd (doubleword s a) ∧
      LoadsF (exec (.fld rd rs1 imm) s) s rd (doubleword s a))

/-- The stores, when the access passes its checks: the address is `State.ea`, the low bytes of the register are stored (of an
`f` register the raw bits), and every byte outside the stored ones reads as before (spec/42_load_store_fence.md rules R280 to
R283, spec/46_fp_single.md rule R421, spec/47_fp_double.md rule R461); and the granule on which the other harts are notified
clears the low bits of an address (spec/49_atomics_monitor.md rule R533). `State.ea`, from which every statement about an ordinary
access takes its address, is the sum of register and immediate modulo 2^64 (spec/42_load_store_fence.md rule R270). -/
def Obligations.StoreInstructions : Prop :=
  (∀ (cfg : Config) (a : Word) (k : Nat), cfg.reservationGranule = 2 ^ k → (granule cfg a).toNat = a.toNat / 2 ^ k * 2 ^ k) ∧
  (∀ (s : State) (r : Reg) (d : Word), (s.ea r d).toNat = ((s.readX r).toNat + d.toNat) % 2 ^ 64) ∧
  ∀ (s : State) (rs2 rs1 : Reg) (imm : BitVec 12), let a := s.ea rs1 (sext imm)
    (OrdinaryOk s a 1 → StoresAt (exec (.sb rs2 rs1 imm) s) s a 1 (s.readX rs2)) ∧
    (OrdinaryOk s a 2 → StoresAt (exec (.sh rs2 rs1 imm) s) s a 2 (s.readX rs2)) ∧
    (OrdinaryOk s a 4 → StoresAt (exec (.sw rs2 rs1 imm) s) s a 4 (s.readX rs2) ∧
      StoresAt (exec (.fsw rs2 rs1 imm) s) s a 4 (s.readF rs2)) ∧
    (OrdinaryOk s a 8 → StoresAt (exec (.sd rs2 rs1 imm) s) s a 8 (s.readX rs2) ∧
      StoresAt (exec (.fsd rs2 rs1 imm) s) s a 8 (s.readF rs2))

/-- FENCE and FENCE.I of every operand, and C.NOP, do nothing; ECALL, EBREAK and C.EBREAK halt the hart at the instruction and
change nothing else (spec/42_load_store_fence.md rules R284, R285; spec/44_compressed.md rules R328, R352;
spec/43_csr_system.md rules R308, R309); that the step counts them is `StepRunsDecodedInstruction`. -/
def Obligations.FencesAndEnvironmentCalls : Prop :=
  ∀ (s : State) (fm pred succ : BitVec 4) (rs1 rd : Reg) (imm : BitVec 12) (imm6 : BitVec 6),
    exec (.fence fm pred succ rs1 rd) s = .next s ∧ exec (.fenceI imm rs1 rd) s = .next s ∧ exec (.cNop imm6) s = .next s ∧
    exec .ecall s = .next { s with run := .halted .environmentCall s.pc } ∧
    exec .ebreak s = .next { s with run := .halted .breakpoint s.pc } ∧
    exec .cEbreak s = .next { s with run := .halted .breakpoint s.pc }

/-- An access in the null page, or one that must be aligned and is not, halts the hart with the start address
(spec/60_exceptions.md rules R563, R564). That the null page comes first (spec/20_memory.md rule R88, spec/49_atomics_monitor.md
rule R534, spec/60_exceptions.md rule R568) is the spec's own decision D5, and that nothing else changes (spec/60_exceptions.md
rule R570) its decision D34. An access that passes both and reaches a byte outside the allocated set leaves the model stuck
(spec/20_memory.md rule R81, log entry 7); of a store-conditional see `StoreConditionalInstructions`, of the address
`State.ea` see `StoreInstructions`. -/
def Obligations.AccessFaults : Prop :=
  ∀ (i : Instr) (s : State) (atomic : Bool) (a : Word) (n : Nat), dataAccess s i = some (atomic, a, n) →
    (a.toNat < s.cfg.nullPageSize → exec i s = .next { s with run := .halted .nullPageAccess a }) ∧
    (s.cfg.nullPageSize ≤ a.toNat → atomic = true ∨ s.cfg.requireAlignment = true → a.toNat % n ≠ 0 →
      exec i s = .next { s with run := .halted .misalignedAccess a }) ∧
    ((if atomic = true then AtomicPasses s a n else OrdinaryPasses s a n) → ¬AllocatedAll s a n →
      (∀ rd rs2 rs1 aq rl, i ≠ .scW rd rs2 rs1 aq rl ∧ i ≠ .scD rd rs2 rs1 aq rl) → exec i s = .fault (.unallocated a))

/-- A mixed-width read sees the bytes of an 8-byte write (spec/20_memory.md rule R84); across the top of the address space this
rests on the wrapping of addresses, the spec's own decision D31 (rule R105, log entry 13). -/
def Obligations.MixedWidthReads : Prop :=
  ∀ (m : Memory) (a v : Word) (k n : Nat), k + n ≤ 8 →
    Memory.readLE (Memory.writeLE m a 8 v) (a + BitVec.ofNat 64 k) n = BitVec.ofNat 64 (v.toNat / 2 ^ (8 * k) % 2 ^ (8 * n))

/-! ### CSRs, ECALL, EBREAK -/

/-- The CSR instructions on `fflags`, `frm` and `fcsr` (spec/43_csr_system.md rules R302 to R307, spec/10_state.md rule R44). -/
def Obligations.CsrInstructions : Prop :=
  ∀ (s : State) (rd rs1 : Reg) (csr : BitVec 12) (uimm : BitVec 5),
    AccessesCsr (exec (.csrrw rd csr rs1) s) s rd csr (fun _ => s.readX rs1) ∧
    AccessesCsr (exec (.csrrs rd csr rs1) s) s rd csr (fun t => t ||| s.readX rs1) ∧
    AccessesCsr (exec (.csrrc rd csr rs1) s) s rd csr (fun t => t &&& ~~~s.readX rs1) ∧
    AccessesCsr (exec (.csrrwi rd csr uimm) s) s rd csr (fun _ => BitVec.ofNat 64 uimm.toNat) ∧
    AccessesCsr (exec (.csrrsi rd csr uimm) s) s rd csr (fun t => t ||| BitVec.ofNat 64 uimm.toNat) ∧
    AccessesCsr (exec (.csrrci rd csr uimm) s) s rd csr (fun t => t &&& ~~~BitVec.ofNat 64 uimm.toNat)

/-- What is rejected at execution: a CSR instruction that names a CSR other than the three, whether or not it would read or
write, and an instruction with a rounding-mode field whose effective mode is 5, 6 or 7, in both arithmetic modes; each halts as
unimplemented and changes nothing else (spec/43_csr_system.md rule R300, spec/45_fp_primitives.md rule R372). -/
def Obligations.ExecutionRejects : Prop :=
  (∀ (s : State) (rd rs1 : Reg) (csr : BitVec 12) (uimm : BitVec 5), csr ≠ 0x001 → csr ≠ 0x002 → csr ≠ 0x003 →
    ∀ i ∈ [Instr.csrrw rd csr rs1, .csrrs rd csr rs1, .csrrc rd csr rs1, .csrrwi rd csr uimm, .csrrsi rd csr uimm,
      .csrrci rd csr uimm], exec i s = .next { s with run := .halted .unimplementedInstruction (zext (encode i)) }) ∧
  (∀ (i : Instr) (s : State) (rm : BitVec 3), rmField i = some rm → 5 ≤ (if rm = 7 then frmOf s.fcsr else rm).toNat →
    exec i s = .next { s with run := .halted .unimplementedInstruction (zext (encode i)) })

/-- `fcsr`: an instruction that is no CSR instruction leaves `frm` and clears no flag; one that is no floating-point computation
either leaves all of it (spec/10_state.md rule R42). -/
def Obligations.FlagsAreSticky : Prop :=
  ∀ (i : Instr) (s t : State), exec i s = .next t → csrAccessing i = false →
    frmOf t.fcsr = frmOf s.fcsr ∧ fflagsOf t.fcsr ||| fflagsOf s.fcsr = fflagsOf t.fcsr ∧
    (floatComputing i = false → t.fcsr = s.fcsr)

/-! ### Atomics -/

/-- LR.W and LR.D, when the access passes its checks; `aq` and `rl` do not matter (spec/49_atomics_monitor.md rules R537, R538,
R536). -/
def Obligations.LoadLinkedInstructions : Prop :=
  ∀ (s : State) (rd rs1 : Reg) (aq rl : BitVec 1), let a := s.readX rs1
    (AtomicOk s a 4 → LinksAt (exec (.lrW rd rs1 aq rl) s) s rd (sext (word s a)) a .word) ∧
    (AtomicOk s a 8 → LinksAt (exec (.lrD rd rs1 aq rl) s) s rd (doubleword s a) a .doubleword)

/-- SC.W and SC.D, when the access passes its checks: they succeed (and are stuck when the bytes to store are not allocated: log
entry 7), are forced to fail, fail because another hart interfered, or fail because the Local Monitor does not match; the four
cases are disjoint (spec/49_atomics_monitor.md rules R539, R540, R525, R530; the outcome is deterministic: log entry 8, and a
mismatch opens the Local Monitor: log entry 9; the granule: `StoreInstructions`). -/
def Obligations.StoreConditionalInstructions : Prop :=
  ∀ (s : State) (rd rs2 rs1 : Reg) (aq rl : BitVec 1), let a := s.readX rs1
    ∀ p ∈ [(Instr.scW rd rs2 rs1 aq rl, 4, MonitorSize.word), (.scD rd rs2 rs1 aq rl, 8, .doubleword)], AtomicPasses s a p.2.1 →
      (s.lm = .rmw a p.2.2 → s.gm.state = .rmw → s.gm.addr = a → s.gm.failCount < s.cfg.scForcedFailPeriod →
        (AllocatedAll s a p.2.1 → ConditionallyStores (exec p.1 s) s rd a p.2.1 (s.readX rs2)) ∧
        (¬AllocatedAll s a p.2.1 → exec p.1 s = .fault (.unallocated a))) ∧
      (s.lm = .rmw a p.2.2 → s.gm.state = .rmw → s.gm.addr = a → s.cfg.scForcedFailPeriod ≤ s.gm.failCount →
        ConditionallyFails (exec p.1 s) s rd { state := .open, addr := s.gm.addr, failCount := 0 }) ∧
      (s.lm = .rmw a p.2.2 → s.gm.state ≠ .rmw ∨ s.gm.addr ≠ a → ConditionallyFails (exec p.1 s) s rd s.gm) ∧
      (s.lm ≠ .rmw a p.2.2 → ConditionallyFails (exec p.1 s) s rd s.gm)

/-- The word AMOs, when the access passes its checks (spec/49_atomics_monitor.md rules R541 to R550; the granule:
`StoreInstructions`). -/
def Obligations.AmoWordInstructions : Prop :=
  ∀ (s : State) (rd rs2 rs1 : Reg) (aq rl : BitVec 1), let a := s.readX rs1
    let t := word s a
    let v := lo32 (s.readX rs2)
    AtomicOk s a 4 →
      SwapsAt (exec (.amoswapW rd rs2 rs1 aq rl) s) s rd (sext t) a 4 (zext v) ∧
      SwapsAt (exec (.amoaddW rd rs2 rs1 aq rl) s) s rd (sext t) a 4 (BitVec.ofNat 64 ((t.toNat + v.toNat) % 2 ^ 32)) ∧
      SwapsAt (exec (.amoxorW rd rs2 rs1 aq rl) s) s rd (sext t) a 4 (zext (t ^^^ v)) ∧
      SwapsAt (exec (.amoandW rd rs2 rs1 aq rl) s) s rd (sext t) a 4 (zext (t &&& v)) ∧
      SwapsAt (exec (.amoorW rd rs2 rs1 aq rl) s) s rd (sext t) a 4 (zext (t ||| v)) ∧
      SwapsAt (exec (.amominW rd rs2 rs1 aq rl) s) s rd (sext t) a 4 (zext (if t.toInt < v.toInt then t else v)) ∧
      SwapsAt (exec (.amomaxW rd rs2 rs1 aq rl) s) s rd (sext t) a 4 (zext (if t.toInt > v.toInt then t else v)) ∧
      SwapsAt (exec (.amominuW rd rs2 rs1 aq rl) s) s rd (sext t) a 4 (zext (if t.toNat < v.toNat then t else v)) ∧
      SwapsAt (exec (.amomaxuW rd rs2 rs1 aq rl) s) s rd (sext t) a 4 (zext (if t.toNat > v.toNat then t else v))

/-- The doubleword AMOs, when the access passes its checks (spec/49_atomics_monitor.md rules R541, R551 to R559; the granule:
`StoreInstructions`). -/
def Obligations.AmoDoublewordInstructions : Prop :=
  ∀ (s : State) (rd rs2 rs1 : Reg) (aq rl : BitVec 1), let a := s.readX rs1
    let t := doubleword s a
    let v := s.readX rs2
    AtomicOk s a 8 →
      SwapsAt (exec (.amoswapD rd rs2 rs1 aq rl) s) s rd t a 8 v ∧
      SwapsAt (exec (.amoaddD rd rs2 rs1 aq rl) s) s rd t a 8 (BitVec.ofNat 64 ((t.toNat + v.toNat) % 2 ^ 64)) ∧
      SwapsAt (exec (.amoxorD rd rs2 rs1 aq rl) s) s rd t a 8 (t ^^^ v) ∧
      SwapsAt (exec (.amoandD rd rs2 rs1 aq rl) s) s rd t a 8 (t &&& v) ∧
      SwapsAt (exec (.amoorD rd rs2 rs1 aq rl) s) s rd t a 8 (t ||| v) ∧
      SwapsAt (exec (.amominD rd rs2 rs1 aq rl) s) s rd t a 8 (if t.toInt < v.toInt then t else v) ∧
      SwapsAt (exec (.amomaxD rd rs2 rs1 aq rl) s) s rd t a 8 (if t.toInt > v.toInt then t else v) ∧
      SwapsAt (exec (.amominuD rd rs2 rs1 aq rl) s) s rd t a 8 (if t.toNat < v.toNat then t else v) ∧
      SwapsAt (exec (.amomaxuD rd rs2 rs1 aq rl) s) s rd t a 8 (if t.toNat > v.toNat then t else v)

/-- A store-conditional right after a load-linked to the same address, with the count below the period, succeeds exactly once: a
second one without a new load-linked fails and leaves memory (spec/49_atomics_monitor.md rules R525, R530, R539). -/
def Obligations.StoreConditionalSucceedsOnce : Prop :=
  ∀ (s : State) (rd rd1 rd2 rs2 rs1 : Reg) (aq rl : BitVec 1), AtomicOk s (s.readX rs1) 4 →
    s.gm.failCount < s.cfg.scForcedFailPeriod → rd ≠ rs1 → rd1 ≠ rs1 → rd1 ≠ 0 → rd2 ≠ 0 →
    ∃ t u v, exec (.lrW rd rs1 aq rl) s = .next t ∧ exec (.scW rd1 rs2 rs1 aq rl) t = .next u ∧ u.readX rd1 = 0 ∧
      exec (.scW rd2 rs2 rs1 aq rl) u = .next v ∧ v.readX rd2 = 1 ∧ v.mem = u.mem

/-- What touches memory and the monitors: only the stores, the store-conditionals and the AMOs write memory; the Local Monitor
and the hart's Global Monitor record change only at data accesses; every access that completes but a load-linked leaves the
Local Monitor open; a load changes no Global Monitor record (spec/20_memory.md rule R82, spec/49_atomics_monitor.md rules R522,
R523, R535). That a store-conditional which does not match opens it too is the spec's own choice D23 (rule R525, log entry 9). -/
def Obligations.AccessEffects : Prop :=
  ∀ (i : Instr) (s t : State), exec i s = .next t →
    (storing i = false → t.mem = s.mem ∧ t.harts = s.harts) ∧
    (accessing i = false → t.lm = s.lm) ∧
    (accessing i = true → loadLinking i = false → t.run = s.run → s.run = .running → t.lm = .open) ∧
    (storing i = false → loadLinking i = false → t.gm = s.gm)

/-! ### Floating point: the instructions -/

/-- The fused multiply-adds: which product and addend are negated, the operands read and the result written boxed for the
single forms (spec/46_fp_single.md rules R422 to R425, spec/47_fp_double.md rules R462 to R465). -/
def Obligations.FusedInstructions : Prop :=
  ∀ (s : State) (rd rs1 rs2 rs3 : Reg) (rm : BitVec 3) (r : RoundingMode), RmSelects s rm r →
    let m := s.cfg.fpArithMode
    let f (np nc : Bool) := fma .s m r (s.readS rs1) (s.readS rs2) (s.readS rs3) np nc
    let g (np nc : Bool) := fma .d m r (s.readF rs1) (s.readF rs2) (s.readF rs3) np nc
    SetsF (exec (.fmaddS rd rs1 rs2 rs3 rm) s) s rd (box32 (f false false).1) (f false false).2 ∧
    SetsF (exec (.fmsubS rd rs1 rs2 rs3 rm) s) s rd (box32 (f false true).1) (f false true).2 ∧
    SetsF (exec (.fnmsubS rd rs1 rs2 rs3 rm) s) s rd (box32 (f true false).1) (f true false).2 ∧
    SetsF (exec (.fnmaddS rd rs1 rs2 rs3 rm) s) s rd (box32 (f true true).1) (f true true).2 ∧
    SetsF (exec (.fmaddD rd rs1 rs2 rs3 rm) s) s rd (g false false).1 (g false false).2 ∧
    SetsF (exec (.fmsubD rd rs1 rs2 rs3 rm) s) s rd (g false true).1 (g false true).2 ∧
    SetsF (exec (.fnmsubD rd rs1 rs2 rs3 rm) s) s rd (g true false).1 (g true false).2 ∧
    SetsF (exec (.fnmaddD rd rs1 rs2 rs3 rm) s) s rd (g true true).1 (g true true).2

/-- The arithmetic instructions (spec/46_fp_single.md rules R426 to R430, spec/47_fp_double.md rules R466 to R470). -/
def Obligations.FloatArithmeticInstructions : Prop :=
  ∀ (s : State) (rd rs1 rs2 : Reg) (rm : BitVec 3) (r : RoundingMode), RmSelects s rm r →
    let m := s.cfg.fpArithMode
    let boxed (p : BitVec 32 × Flags) := (box32 p.1, p.2)
    ∀ p ∈ [
      (Instr.faddS rd rs1 rs2 rm, boxed (fadd .s m r (s.readS rs1) (s.readS rs2))),
      (.fsubS rd rs1 rs2 rm, boxed (fsub .s m r (s.readS rs1) (s.readS rs2))),
      (.fmulS rd rs1 rs2 rm, boxed (fmul .s m r (s.readS rs1) (s.readS rs2))),
      (.fdivS rd rs1 rs2 rm, boxed (fdiv .s m r (s.readS rs1) (s.readS rs2))),
      (.fsqrtS rd rs1 rm, boxed (fsqrt .s m r (s.readS rs1))),
      (.faddD rd rs1 rs2 rm, fadd .d m r (s.readF rs1) (s.readF rs2)),
      (.fsubD rd rs1 rs2 rm, fsub .d m r (s.readF rs1) (s.readF rs2)),
      (.fmulD rd rs1 rs2 rm, fmul .d m r (s.readF rs1) (s.readF rs2)),
      (.fdivD rd rs1 rs2 rm, fdiv .d m r (s.readF rs1) (s.readF rs2)),
      (.fsqrtD rd rs1 rm, fsqrt .d m r (s.readF rs1))],
      SetsF (exec p.1 s) s rd p.2.1 p.2.2

/-- Sign injection, bit by bit, and the instructions of minimum and maximum (spec/46_fp_single.md rules R431 to R435,
spec/47_fp_double.md rules R471 to R475). -/
def Obligations.SignAndMinMaxInstructions : Prop :=
  ∀ (s : State) (rd rs1 rs2 : Reg),
    let a := s.readS rs1
    let b := s.readS rs2
    let c := s.readF rs1
    let d := s.readF rs2
    SetsF (exec (.fsgnjS rd rs1 rs2) s) s rd (box32 (b.extractLsb' 31 1 ++ a.extractLsb' 0 31)) Flags.none ∧
    SetsF (exec (.fsgnjnS rd rs1 rs2) s) s rd (box32 (~~~b.extractLsb' 31 1 ++ a.extractLsb' 0 31)) Flags.none ∧
    SetsF (exec (.fsgnjxS rd rs1 rs2) s) s rd
      (box32 ((a.extractLsb' 31 1 ^^^ b.extractLsb' 31 1) ++ a.extractLsb' 0 31)) Flags.none ∧
    SetsF (exec (.fsgnjD rd rs1 rs2) s) s rd (d.extractLsb' 63 1 ++ c.extractLsb' 0 63) Flags.none ∧
    SetsF (exec (.fsgnjnD rd rs1 rs2) s) s rd (~~~d.extractLsb' 63 1 ++ c.extractLsb' 0 63) Flags.none ∧
    SetsF (exec (.fsgnjxD rd rs1 rs2) s) s rd
      ((c.extractLsb' 63 1 ^^^ d.extractLsb' 63 1) ++ c.extractLsb' 0 63) Flags.none ∧
    SetsF (exec (.fminS rd rs1 rs2) s) s rd (box32 (fmin .s a b).1) (fmin .s a b).2 ∧
    SetsF (exec (.fmaxS rd rs1 rs2) s) s rd (box32 (fmax .s a b).1) (fmax .s a b).2 ∧
    SetsF (exec (.fminD rd rs1 rs2) s) s rd (fmin .d c d).1 (fmin .d c d).2 ∧
    SetsF (exec (.fmaxD rd rs1 rs2) s) s rd (fmax .d c d).1 (fmax .d c d).2

/-- Float to integer: a 32-bit result, signed or unsigned, is sign-extended (spec/46_fp_single.md rules R436 to R439,
spec/47_fp_double.md rules R482 to R485, spec/45_fp_primitives.md rule R385). -/
def Obligations.FloatToIntInstructions : Prop :=
  ∀ (s : State) (rd rs1 : Reg) (rm : BitVec 3) (r : RoundingMode), RmSelects s rm r →
    let a := s.readS rs1
    let d := s.readF rs1
    ∀ p ∈ [
      (Instr.fcvtWS rd rs1 rm, (f2i .s r a 32 true).1.toInt, (f2i .s r a 32 true).2),
      (.fcvtWuS rd rs1 rm, (f2i .s r a 32 false).1.toInt, (f2i .s r a 32 false).2),
      (.fcvtLS rd rs1 rm, (f2i .s r a 64 true).1.toInt, (f2i .s r a 64 true).2),
      (.fcvtLuS rd rs1 rm, (f2i .s r a 64 false).1.toInt, (f2i .s r a 64 false).2),
      (.fcvtWD rd rs1 rm, (f2i .d r d 32 true).1.toInt, (f2i .d r d 32 true).2),
      (.fcvtWuD rd rs1 rm, (f2i .d r d 32 false).1.toInt, (f2i .d r d 32 false).2),
      (.fcvtLD rd rs1 rm, (f2i .d r d 64 true).1.toInt, (f2i .d r d 64 true).2),
      (.fcvtLuD rd rs1 rm, (f2i .d r d 64 false).1.toInt, (f2i .d r d 64 false).2)],
      ∃ v : Word, v.toInt = p.2.1 ∧ SetsXFlags (exec p.1 s) s rd v p.2.2

/-- The comparisons, the classifications and the raw moves: moves are bit-exact with no boxing check in FMV.X.W
(spec/46_fp_single.md rules R440 to R444, R449; spec/47_fp_double.md rules R478 to R481, R490, R491). -/
def Obligations.CompareClassMoveInstructions : Prop :=
  ∀ (s : State) (rd rs1 rs2 : Reg),
    let a := s.readS rs1
    let b := s.readS rs2
    let c := s.readF rs1
    let d := s.readF rs2
    (∀ p ∈ [(Instr.feqS rd rs1 rs2, feq .s a b), (.fltS rd rs1 rs2, flt .s a b), (.fleS rd rs1 rs2, fle .s a b),
      (.feqD rd rs1 rs2, feq .d c d), (.fltD rd rs1 rs2, flt .d c d), (.fleD rd rs1 rs2, fle .d c d)],
      SetsXFlags (exec p.1 s) s rd (if p.2.1 = true then 1 else 0) p.2.2) ∧
    SetsX (exec (.fclassS rd rs1) s) s rd (fun v => v = fclass .s a) ∧
    SetsX (exec (.fclassD rd rs1) s) s rd (fun v => v = fclass .d c) ∧
    SetsX (exec (.fmvXW rd rs1) s) s rd (fun v => v.toInt = Int.bmod c.toNat (2 ^ 32)) ∧
    SetsF (exec (.fmvWX rd rs1) s) s rd (0xFFFFFFFF#32 ++ (s.readX rs1).extractLsb' 0 32) Flags.none ∧
    SetsX (exec (.fmvXD rd rs1) s) s rd (fun v => v = c) ∧
    SetsF (exec (.fmvDX rd rs1) s) s rd (s.readX rs1) Flags.none

/-- Integer to float and between the two formats (spec/46_fp_single.md rules R445 to R448, spec/47_fp_double.md rules R476,
R477, R486 to R489); zero converts to +0, any other integer is rounded in the arithmetic mode (spec/45_fp_primitives.md rules
R387, R375, the spec's own decision D18). -/
def Obligations.ToFloatInstructions : Prop :=
  (∀ (F : Fmt) (m : FpArithMode) (rm : RoundingMode) (n : Int),
    i2f F m rm n = if n = 0 then (F.zero false, 0) else arithRound F m rm ⟨n, 1⟩) ∧
  (∀ (F : Fmt) (rm : RoundingMode) (x : Exact),
    arithRound F .ieeeFull rm x = roundF F rm x ∧ arithRound F .hostRne rm x = ((roundF F .rne x).1, 0)) ∧
  ∀ (s : State) (rd rs1 : Reg) (rm : BitVec 3) (r : RoundingMode), RmSelects s rm r →
    let m := s.cfg.fpArithMode
    let boxed (p : BitVec 32 × Flags) := (box32 p.1, p.2)
    let w := lo32 (s.readX rs1)
    let x := s.readX rs1
    ∀ p ∈ [
      (Instr.fcvtSW rd rs1 rm, boxed (i2f .s m r w.toInt)), (.fcvtSWu rd rs1 rm, boxed (i2f .s m r w.toNat)),
      (.fcvtSL rd rs1 rm, boxed (i2f .s m r x.toInt)), (.fcvtSLu rd rs1 rm, boxed (i2f .s m r x.toNat)),
      (.fcvtDW rd rs1 rm, i2f .d m r w.toInt), (.fcvtDWu rd rs1 rm, i2f .d m r w.toNat),
      (.fcvtDL rd rs1 rm, i2f .d m r x.toInt), (.fcvtDLu rd rs1 rm, i2f .d m r x.toNat),
      (.fcvtSD rd rs1 rm, boxed (f2fDtoS m r (s.readF rs1))), (.fcvtDS rd rs1 rm, f2fStoD (s.readS rs1))],
      SetsF (exec p.1 s) s rd p.2.1 p.2.2

/-- NaN-boxing: a single is written with the upper half all ones, and a register whose upper half is not all ones reads as the
canonical quiet NaN; a single operand is read so (spec/10_state.md rule R39). -/
def Obligations.NanBoxing : Prop :=
  (∀ w : BitVec 32, (box32 w).toNat = 0xFFFFFFFF * 2 ^ 32 + w.toNat) ∧
  (∀ v : Word, unbox32 v = if v.toNat / 2 ^ 32 = 0xFFFFFFFF then BitVec.ofNat 32 v.toNat else 0x7FC00000) ∧
  (∀ (s : State) (rd r : Reg) (w : BitVec 32), (s.writeS rd w).readS r = if r = rd then w else s.readS r) ∧
  (∀ (s : State) (r : Reg), s.readS r = unbox32 (s.readF r))

/-! ### Compressed instructions -/

/-- The compressed computations, with the registers their fields reach (spec/44_compressed.md rules R321, R329 to R342, R346,
R351, R354). -/
def Obligations.CompressedComputations : Prop :=
  ∀ (s : State) (rd rs2 : Reg) (c d : CReg) (u : BitVec 10) (imm : BitVec 6),
    SetsX (exec (.cAddi4spn c u) s) s (cReg c) (fun v => v.toNat = ((s.readX sp).toNat + u.toNat) % 2 ^ 64) ∧
    SetsX (exec (.cAddi rd imm) s) s rd (fun v => (v.toNat : Int) = ((s.readX rd).toNat + imm.toInt) % 2 ^ 64) ∧
    SetsX (exec (.cAddiw rd imm) s) s rd (fun v => v.toInt = Int.bmod ((s.readX rd).toInt + imm.toInt) (2 ^ 32)) ∧
    SetsX (exec (.cLi rd imm) s) s rd (fun v => v.toInt = imm.toInt) ∧
    SetsX (exec (.cAddi16sp u) s) s sp (fun v => (v.toNat : Int) = ((s.readX sp).toNat + u.toInt) % 2 ^ 64) ∧
    SetsX (exec (.cLui rd imm) s) s rd (fun v => v.toInt = imm.toInt * 2 ^ 12) ∧
    SetsX (exec (.cSrli c imm) s) s (cReg c) (fun v => v.toNat = (s.readX (cReg c)).toNat / 2 ^ imm.toNat) ∧
    SetsX (exec (.cSrai c imm) s) s (cReg c) (fun v => v.toInt = (s.readX (cReg c)).toInt / 2 ^ imm.toNat) ∧
    SetsX (exec (.cAndi c imm) s) s (cReg c)
      (fun v => ∀ k < 64, v.getLsbD k = ((s.readX (cReg c)).getLsbD k && imm.getLsbD (min k 5))) ∧
    SetsX (exec (.cSub c d) s) s (cReg c)
      (fun v => (v.toNat : Int) = ((s.readX (cReg c)).toNat - (s.readX (cReg d)).toNat : Int) % 2 ^ 64) ∧
    SetsX (exec (.cXor c d) s) s (cReg c) (fun v => v = s.readX (cReg c) ^^^ s.readX (cReg d)) ∧
    SetsX (exec (.cOr c d) s) s (cReg c) (fun v => v = s.readX (cReg c) ||| s.readX (cReg d)) ∧
    SetsX (exec (.cAnd c d) s) s (cReg c) (fun v => v = s.readX (cReg c) &&& s.readX (cReg d)) ∧
    SetsX (exec (.cSubw c d) s) s (cReg c)
      (fun v => v.toInt = Int.bmod ((s.readX (cReg c)).toInt - (s.readX (cReg d)).toInt) (2 ^ 32)) ∧
    SetsX (exec (.cAddw c d) s) s (cReg c)
      (fun v => v.toInt = Int.bmod ((s.readX (cReg c)).toInt + (s.readX (cReg d)).toInt) (2 ^ 32)) ∧
    SetsX (exec (.cSlli rd imm) s) s rd (fun v => v.toNat = (s.readX rd).toNat * 2 ^ imm.toNat % 2 ^ 64) ∧
    SetsX (exec (.cMv rd rs2) s) s rd (fun v => v = s.readX rs2) ∧
    SetsX (exec (.cAdd rd rs2) s) s rd (fun v => v.toNat = ((s.readX rd).toNat + (s.readX rs2).toNat) % 2 ^ 64) ∧
    (cReg c).toNat = 8 + c.toNat

/-- The compressed loads and stores, when the access passes its checks (spec/44_compressed.md rules R322 to R327, R347 to R349,
R355 to R357; the address `State.ea`: `StoreInstructions`). -/
def Obligations.CompressedAccesses : Prop :=
  ∀ (s : State) (rd rs2 : Reg) (c d : CReg) (u7 : BitVec 7) (u8 : BitVec 8) (u9 : BitVec 9),
    (∀ a, a = s.ea (cReg d) (zext u7) → OrdinaryOk s a 4 →
      LoadsX (exec (.cLw c d u7) s) s (cReg c) (sext (word s a)) ∧
      StoresAt (exec (.cSw c d u7) s) s a 4 (s.readX (cReg c))) ∧
    (∀ a, a = s.ea (cReg d) (zext u8) → OrdinaryOk s a 8 →
      LoadsX (exec (.cLd c d u8) s) s (cReg c) (doubleword s a) ∧
      LoadsF (exec (.cFld c d u8) s) s (cReg c) (doubleword s a) ∧
      StoresAt (exec (.cSd c d u8) s) s a 8 (s.readX (cReg c)) ∧
      StoresAt (exec (.cFsd c d u8) s) s a 8 (s.readF (cReg c))) ∧
    (∀ a, a = s.ea sp (zext u8) → OrdinaryOk s a 4 →
      LoadsX (exec (.cLwsp rd u8) s) s rd (sext (word s a)) ∧
      StoresAt (exec (.cSwsp rs2 u8) s) s a 4 (s.readX rs2)) ∧
    (∀ a, a = s.ea sp (zext u9) → OrdinaryOk s a 8 →
      LoadsX (exec (.cLdsp rd u9) s) s rd (doubleword s a) ∧
      LoadsF (exec (.cFldsp rd u9) s) s rd (doubleword s a) ∧
      StoresAt (exec (.cSdsp rs2 u9) s) s a 8 (s.readX rs2) ∧
      StoresAt (exec (.cFsdsp rs2 u9) s) s a 8 (s.readF rs2))

/-- The compressed jumps and branches (spec/44_compressed.md rules R343 to R345, R350, R353). -/
def Obligations.CompressedTransfers : Prop :=
  ∀ (s : State) (r : Reg) (c : CReg) (o12 : BitVec 12) (o9 : BitVec 9),
    let land (a : Word) : State := { s with pc := a, pcModified := true }
    exec (.cJ o12) s = .next (land (BitVec.ofInt 64 (s.pc.toNat + o12.toInt))) ∧
    exec (.cBeqz c o9) s =
      .next (if s.readX (cReg c) = 0 then land (BitVec.ofInt 64 (s.pc.toNat + o9.toInt)) else s) ∧
    exec (.cBnez c o9) s =
      .next (if s.readX (cReg c) ≠ 0 then land (BitVec.ofInt 64 (s.pc.toNat + o9.toInt)) else s) ∧
    exec (.cJr r) s = .next (land (BitVec.ofNat 64 ((s.readX r).toNat / 2 * 2))) ∧
    JumpsTo (exec (.cJalr r) s) s (BitVec.ofNat 64 ((s.readX r).toNat / 2 * 2)) 1 (s.pc + 2)

/-! ### Floating point: the primitives -/

/-- Rounding to an integer in each mode, against the rational the exact value denotes (spec/45_fp_primitives.md rule R374). -/
def Obligations.RoundToInteger : Prop :=
  ∀ x : Exact, 0 < x.den →
    rint .rdn x = ⌊x.toRat⌋ ∧ rint .rup x = ⌈x.toRat⌉ ∧
    rint .rtz x = (if 0 ≤ x.toRat then ⌊x.toRat⌋ else ⌈x.toRat⌉) ∧
    |x.toRat - rint .rne x| ≤ 1 / 2 ∧ (|x.toRat - rint .rne x| = 1 / 2 → (rint .rne x) % 2 = 0) ∧
    |x.toRat - rint .rmm x| ≤ 1 / 2 ∧ (|x.toRat - rint .rmm x| = 1 / 2 → |x.toRat| < |(rint .rmm x : ℚ)|)

/-- Rounding to a format: with `e` the exponent of `|x|` and `q` the weight of the last fraction bit, the value `v` is `x / 2^q`
rounded to an integer, times `2^q`; when it is in range the pattern denotes it, with the sign of `x`, NX says whether it is not
`x`, and UF whether besides it is tiny after rounding to an unbounded exponent; when it is not in range, the result is an
infinity or the largest finite number, by mode and sign, and the flags are OF and NX (spec/45_fp_primitives.md rules R377, R378,
R379). -/
def Obligations.RoundToFormat : Prop :=
  ∀ (F : Fmt) (rm : RoundingMode) (x : Exact) (e : Int), 0 < x.den → x.num ≠ 0 →
    (2 : ℚ) ^ e ≤ |x.toRat| → |x.toRat| < 2 ^ (e + 1) →
    let roundedAt (k : Int) : ℚ := rint rm ⟨x.num * 2 ^ (-k).toNat, x.den * 2 ^ k.toNat⟩ * 2 ^ k
    let v := roundedAt (max e F.emin - F.fracBits)
    let vu := roundedAt (e - F.fracBits)
    let neg := decide (x.num < 0)
    let r := roundF F rm x
    (|v| < 2 ^ (F.emax + 1) →
      F.finite r.1 = true ∧ F.ratValue r.1 = v ∧ F.sign r.1 = neg ∧
      r.2 = (if v = x.toRat then Flags.none else if |vu| < 2 ^ F.emin then Flags.uf ||| Flags.nx else Flags.nx)) ∧
    (2 ^ (F.emax + 1) ≤ |v| → r.2 = Flags.of ||| Flags.nx ∧
      r.1 = if rm = .rne ∨ rm = .rmm ∨ (rm = .rdn ∧ neg = true) ∨ (rm = .rup ∧ neg = false) then F.inf neg
        else F.maxFinite neg)

/-- Addition, and subtraction as addition of the operand with its sign inverted: a NaN operand; infinities; two zeros; otherwise
the exact sum of the values is rounded once, an exact zero having the sign the mode gives it (spec/45_fp_primitives.md rule
R380). The canonical NaN is the spec's own decision D19 (rule R376, log entry 10), the zero under HOST_RNE its decision D18. -/
def Obligations.Addition : Prop :=
  ∀ (F : Fmt) (m : FpArithMode) (rm : RoundingMode) (a b : F.Pattern), let cancel := F.zero (decide (m = .ieeeFull ∧ rm = .rdn))
    ((F.isNan a || F.isNan b) = true →
      fadd F m rm a b = (F.cNaN, if (F.isSnan a || F.isSnan b) = true then Flags.nv else 0)) ∧
    (F.isInf a = true → F.isInf b = true → F.sign a ≠ F.sign b → fadd F m rm a b = (F.cNaN, Flags.nv)) ∧
    (F.isInf a = true → F.finite b = true ∨ b = a → fadd F m rm a b = (a, 0)) ∧
    (F.isInf b = true → F.finite a = true → fadd F m rm a b = (b, 0)) ∧
    (F.isZero a = true → F.isZero b = true → fadd F m rm a b = (if F.sign a = F.sign b then a else cancel, 0)) ∧
    (F.finite a = true → F.finite b = true → (F.isZero a && F.isZero b) = false →
      ∃ x : Exact, 0 < x.den ∧ x.toRat = F.ratValue a + F.ratValue b ∧
        fadd F m rm a b = if x.toRat = 0 then (cancel, Flags.none) else arithRound F m rm x) ∧
    fsub F m rm a b = fadd F m rm a (F.negate b) ∧ F.negate b = b ^^^ BitVec.twoPow F.width (F.width - 1)

/-- Multiplication (spec/45_fp_primitives.md rule R381). The canonical NaN is the spec's own decision D19 (rule R376, log entry
10). -/
def Obligations.Multiplication : Prop :=
  ∀ (F : Fmt) (m : FpArithMode) (rm : RoundingMode) (a b : F.Pattern), let s := F.sign a ^^ F.sign b
    ((F.isNan a || F.isNan b) = true →
      fmul F m rm a b = (F.cNaN, if (F.isSnan a || F.isSnan b) = true then Flags.nv else 0)) ∧
    ((F.isZero a && F.isInf b || F.isInf a && F.isZero b) = true → fmul F m rm a b = (F.cNaN, Flags.nv)) ∧
    (F.isNan a = false → F.isNan b = false → F.isZero a = false → F.isZero b = false → (F.isInf a || F.isInf b) = true →
      fmul F m rm a b = (F.inf s, 0)) ∧
    (F.finite a = true → F.finite b = true → (F.isZero a || F.isZero b) = true → fmul F m rm a b = (F.zero s, 0)) ∧
    (F.finite a = true → F.finite b = true → F.isZero a = false → F.isZero b = false →
      ∃ x : Exact, 0 < x.den ∧ x.num ≠ 0 ∧ x.toRat = F.ratValue a * F.ratValue b ∧ fmul F m rm a b = arithRound F m rm x)

/-- Division (spec/45_fp_primitives.md rule R382). The canonical NaN is the spec's own decision D19 (rule R376, log entry 10). -/
def Obligations.Division : Prop :=
  ∀ (F : Fmt) (m : FpArithMode) (rm : RoundingMode) (a b : F.Pattern), let s := F.sign a ^^ F.sign b
    ((F.isNan a || F.isNan b) = true →
      fdiv F m rm a b = (F.cNaN, if (F.isSnan a || F.isSnan b) = true then Flags.nv else 0)) ∧
    ((F.isInf a && F.isInf b || F.isZero a && F.isZero b) = true → fdiv F m rm a b = (F.cNaN, Flags.nv)) ∧
    (F.isInf a = true → F.finite b = true → fdiv F m rm a b = (F.inf s, 0)) ∧
    (F.finite a = true → F.isInf b = true → fdiv F m rm a b = (F.zero s, 0)) ∧
    (F.finite a = true → F.isZero a = false → F.isZero b = true → fdiv F m rm a b = (F.inf s, Flags.dz)) ∧
    (F.isZero a = true → F.finite b = true → F.isZero b = false → fdiv F m rm a b = (F.zero s, 0)) ∧
    (F.finite a = true → F.finite b = true → F.isZero a = false → F.isZero b = false →
      ∃ x : Exact, 0 < x.den ∧ x.num ≠ 0 ∧ x.toRat = F.ratValue a / F.ratValue b ∧ fdiv F m rm a b = arithRound F m rm x)

/-- Square root: the special operands; of a positive number, rounded toward zero, the result has the sign + and its square is not
above the operand and the square of the next number is; the other modes choose between these two numbers, to nearest by the side
of their mean on which the root lies (it never lies on it); HOST_RNE takes the nearest and drops NX (spec/45_fp_primitives.md rule R383). The canonical NaN is the
spec's own decision D19 (rule R376, log entry 10), HOST_RNE its decision D18 (rule R375). -/
def Obligations.SquareRoot : Prop :=
  ∀ (F : Fmt) (m : FpArithMode) (rm : RoundingMode) (a : F.Pattern),
    (F.isNan a = true → fsqrt F m rm a = (F.cNaN, if F.isSnan a = true then Flags.nv else 0)) ∧
    (F.isZero a = true → fsqrt F m rm a = (a, 0)) ∧
    (F.isNan a = false → F.isZero a = false → F.sign a = true → fsqrt F m rm a = (F.cNaN, Flags.nv)) ∧
    (F.isInf a = true → F.sign a = false → fsqrt F m rm a = (a, 0)) ∧
    (F.finite a = true → F.isZero a = false → F.sign a = false →
      let r := fsqrt F .ieeeFull .rtz a
      F.finite r.1 = true ∧ F.sign r.1 = false ∧ F.ratValue r.1 ^ 2 ≤ F.ratValue a ∧ F.ratValue a < F.ratValue (r.1 + 1) ^ 2 ∧
      r.2 = (if F.ratValue r.1 ^ 2 = F.ratValue a then Flags.none else Flags.nx) ∧
      fsqrt F .ieeeFull rm a = (if F.ratValue r.1 ^ 2 = F.ratValue a ∨ rm = .rtz ∨ rm = .rdn ∨
          rm ≠ .rup ∧ F.ratValue a < ((F.ratValue r.1 + F.ratValue (r.1 + 1)) / 2) ^ 2 then r.1 else r.1 + 1, r.2) ∧
      fsqrt F .hostRne rm a = ((fsqrt F .ieeeFull .rne a).1, Flags.none))

/-- Fused multiply-add: the invalid product comes before every NaN; infinities; a zero product and a zero addend; otherwise the
exact value is rounded once (spec/45_fp_primitives.md rule R384; the zero sign under HOST_RNE is the model's reading: log entry
12; the canonical NaN is the spec's own decision D19, rule R376: log entry 10). -/
def Obligations.FusedMultiplyAdd : Prop :=
  ∀ (F : Fmt) (m : FpArithMode) (rm : RoundingMode) (a b c : F.Pattern) (np nc : Bool),
    let cancel := F.zero (decide (m = .ieeeFull ∧ rm = .rdn))
    let sp := (F.sign a ^^ F.sign b) ^^ np
    let sc := F.sign c ^^ nc
    let r := fma F m rm a b c np nc
    ((F.isZero a && F.isInf b || F.isInf a && F.isZero b) = true → r = (F.cNaN, Flags.nv)) ∧
    ((F.isZero a && F.isInf b || F.isInf a && F.isZero b) = false → (F.isNan a || F.isNan b || F.isNan c) = true →
      r = (F.cNaN, if (F.isSnan a || F.isSnan b || F.isSnan c) = true then Flags.nv else 0)) ∧
    (F.isNan a = false → F.isNan b = false → F.isZero a = false → F.isZero b = false → (F.isInf a || F.isInf b) = true →
      F.isNan c = false → r = if F.isInf c = true ∧ sp ≠ sc then (F.cNaN, Flags.nv) else (F.inf sp, 0)) ∧
    (F.finite a = true → F.finite b = true → F.isInf c = true → r = (F.inf sc, 0)) ∧
    (F.finite a = true → F.finite b = true → (F.isZero a || F.isZero b) = true → F.isZero c = true →
      r = (if sp = sc then F.zero sp else cancel, 0)) ∧
    (F.finite a = true → F.finite b = true → F.finite c = true → ((F.isZero a || F.isZero b) && F.isZero c) = false →
      ∃ x : Exact, 0 < x.den ∧
        x.toRat = (if np then -1 else 1) * (F.ratValue a * F.ratValue b) + (if nc then -1 else 1) * F.ratValue c ∧
        r = if x.toRat = 0 then (cancel, Flags.none) else arithRound F m rm x)

/-- Float to integer: the rounded value clamped to the range, with its flags (spec/45_fp_primitives.md rule R386; OF beside NV is
the spec's own decision D20: log entry 11). -/
def Obligations.FloatToIntClamps : Prop :=
  ∀ (F : Fmt) (rm : RoundingMode) (a : F.Pattern) (N : Nat) (signed : Bool), N = 32 ∨ N = 64 →
    let lo : Int := if signed then -2 ^ (N - 1) else 0
    let hi : Int := if signed then 2 ^ (N - 1) - 1 else 2 ^ N - 1
    let int (v : BitVec N) : Int := if signed then v.toInt else v.toNat
    let p := f2i F rm a N signed
    let r := rint rm (F.value a)
    (F.isNan a = true ∨ F.isInf a = true ∧ F.sign a = false → int p.1 = hi ∧ p.2 = Flags.nv) ∧
    (F.isInf a = true → F.sign a = true → int p.1 = lo ∧ p.2 = Flags.nv) ∧
    (F.finite a = true →
      int p.1 = max lo (min hi r) ∧
      p.2 = if r < lo ∨ hi < r then Flags.nv ||| Flags.of else if (r : ℚ) = F.ratValue a then 0 else Flags.nx)

/-- The comparisons of numbers are those of the values, with +0 = -0 and the infinities outside; of NaNs they are false, with NV
for a signaling NaN (equal) or any NaN (less, less or equal) (spec/45_fp_primitives.md rules R389, R390, R391). -/
def Obligations.Comparisons : Prop :=
  ∀ (F : Fmt) (a b : F.Pattern),
    (F.finite a = true → F.finite b = true →
      feq F a b = (decide (F.ratValue a = F.ratValue b), 0) ∧ flt F a b = (decide (F.ratValue a < F.ratValue b), 0) ∧
      fle F a b = (decide (F.ratValue a ≤ F.ratValue b), 0)) ∧
    (F.isInf a = true → F.finite b = true →
      feq F a b = (false, 0) ∧ flt F a b = (F.sign a, 0) ∧ fle F a b = (F.sign a, 0) ∧
      feq F b a = (false, 0) ∧ flt F b a = (!F.sign a, 0) ∧ fle F b a = (!F.sign a, 0)) ∧
    (F.isInf a = true → F.isInf b = true →
      feq F a b = (decide (a = b), 0) ∧ flt F a b = (F.sign a && !F.sign b, 0) ∧ fle F a b = (F.sign a || !F.sign b, 0)) ∧
    ((F.isNan a || F.isNan b) = true →
      feq F a b = (false, if (F.isSnan a || F.isSnan b) = true then Flags.nv else 0) ∧
      flt F a b = (false, Flags.nv) ∧ fle F a b = (false, Flags.nv))

/-- Minimum and maximum (spec/45_fp_primitives.md rule R393; NV for a signaling NaN and the canonical NaN of two NaNs are the
spec's own decision D21). -/
def Obligations.MinimumMaximum : Prop :=
  ∀ (F : Fmt) (a b : F.Pattern), let fl := if (F.isSnan a || F.isSnan b) = true then Flags.nv else 0
    (F.isNan a = true → F.isNan b = true → fmin F a b = (F.cNaN, fl) ∧ fmax F a b = (F.cNaN, fl)) ∧
    (F.isNan a = true → F.isNan b = false → fmin F a b = (b, fl) ∧ fmax F a b = (b, fl)) ∧
    (F.isNan a = false → F.isNan b = true → fmin F a b = (a, fl) ∧ fmax F a b = (a, fl)) ∧
    (F.isZero a = true → F.isZero b = true → F.sign a ≠ F.sign b →
      fmin F a b = (F.zero true, 0) ∧ fmax F a b = (F.zero false, 0)) ∧
    ((flt F a b).1 = true → fmin F a b = (a, 0) ∧ fmax F a b = (b, 0)) ∧
    ((flt F b a).1 = true → fmin F a b = (b, 0) ∧ fmax F a b = (a, 0)) ∧
    (F.isNan a = false → fmin F a a = (a, 0) ∧ fmax F a a = (a, 0))

/-- Classification: exactly one of bits 9:0 is set, the one of the operand's class (spec/45_fp_primitives.md rule R394). -/
def Obligations.Classification : Prop :=
  ∀ (F : Fmt) (a : F.Pattern),
    (∃ k < 10, fclass F a = BitVec.twoPow 64 k) ∧
    ((fclass F a).getLsbD 0 = (F.isInf a && F.sign a)) ∧
    ((fclass F a).getLsbD 1 = (F.finite a && decide (2 ^ F.fracBits ≤ a.toNat % 2 ^ (F.width - 1)) && F.sign a)) ∧
    ((fclass F a).getLsbD 2 = (F.isSubnormal a && F.sign a)) ∧
    ((fclass F a).getLsbD 3 = (F.isZero a && F.sign a)) ∧
    ((fclass F a).getLsbD 4 = (F.isZero a && !F.sign a)) ∧
    ((fclass F a).getLsbD 5 = (F.isSubnormal a && !F.sign a)) ∧
    ((fclass F a).getLsbD 6 = (F.finite a && decide (2 ^ F.fracBits ≤ a.toNat % 2 ^ (F.width - 1)) && !F.sign a)) ∧
    ((fclass F a).getLsbD 7 = (F.isInf a && !F.sign a)) ∧
    ((fclass F a).getLsbD 8 = F.isSnan a) ∧ ((fclass F a).getLsbD 9 = F.isQnan a)

/-- Between the formats: to single, the value is rounded; to double it is exact, with no flag and no mode (a NaN apart), and back
again it is the same pattern; NaN payloads are not carried (spec/45_fp_primitives.md rule R388). The canonical NaN of the result
format is the spec's own decision D19 (rule R376, log entry 10). -/
def Obligations.FloatToFloatConversions : Prop :=
  (∀ (m : FpArithMode) (rm : RoundingMode) (a : BitVec 64),
    (Fmt.d.isNan a = true → f2fDtoS m rm a = (0x7FC00000, if Fmt.d.isSnan a = true then Flags.nv else 0)) ∧
    (Fmt.d.isInf a = true → f2fDtoS m rm a = (Fmt.s.inf (Fmt.d.sign a), 0)) ∧
    (Fmt.d.isZero a = true → f2fDtoS m rm a = (Fmt.s.zero (Fmt.d.sign a), 0)) ∧
    (Fmt.d.finite a = true → Fmt.d.isZero a = false → f2fDtoS m rm a = arithRound .s m rm (Fmt.d.value a))) ∧
  (∀ (m : FpArithMode) (rm : RoundingMode) (a : BitVec 32),
    (Fmt.s.isNan a = true → f2fStoD a = (0x7FF8000000000000, if Fmt.s.isSnan a = true then Flags.nv else 0)) ∧
    (Fmt.s.isInf a = true → f2fStoD a = (Fmt.d.inf (Fmt.s.sign a), 0)) ∧
    (Fmt.s.finite a = true → Fmt.d.finite (f2fStoD a).1 = true ∧ Fmt.d.ratValue (f2fStoD a).1 = Fmt.s.ratValue a ∧
      Fmt.d.sign (f2fStoD a).1 = Fmt.s.sign a ∧ (f2fStoD a).2 = 0 ∧ f2fDtoS m rm (f2fStoD a).1 = (a, 0)))

/-! ### The step -/

/-- When no stop applies and the allocated bytes at `pc` decode to an instruction, the step is that instruction's execution and the
end of a step: `pc` advances by its length unless written, and the instruction is counted, also when it halted with an environment
cause; after any other halt nothing more changes (spec/60_exceptions.md rule R585, spec/10_state.md rule R35,
spec/20_memory.md rule R95). `State.switchHart` brings the hart that moves to the front (log entry 4): see
`StepTouchesItsHartOnly`. -/
def Obligations.StepRunsDecodedInstruction : Prop :=
  (∀ (s s₀ : State) (i : Instr) (rest : List Byte), s = s₀.switchHart → s.Fetches → AllocatedAll s s.pc i.len →
    decode [byteAt s s.pc 0, byteAt s s.pc 1, byteAt s s.pc 2, byteAt s s.pc 3] = .ok (i, rest) →
    step s₀ = retireResult i.len (exec i { s with resumeSkip := false, pcModified := false })) ∧
  (∀ (t : State) (n : Nat), t.run = .running → retireResult n (.next t) = .next { t with
    pc := if t.pcModified then t.pc else t.pc + BitVec.ofNat 64 n, pcModified := false, icount := t.icount + 1 }) ∧
  (∀ (t : State) (n : Nat) (c : Cause) (info : Word), t.run = .halted c info → retireResult n (.next t) =
    .next (if c = .environmentCall ∨ c = .breakpoint then { t with icount := t.icount + 1 } else t)) ∧
  (∀ (n : Nat) (f : Fault), retireResult n (.fault f) = .fault f)

/-- The stops between instructions, in their order: the sentinel, never skipped; an enabled breakpoint, the first of which
disables itself when temporary; the count; and a hart that is not Running does nothing (spec/60_exceptions.md rules R585 to
R588). That the step changes nothing where no hart is in front is the model's own deduction (DEDUCED: log entry 20). -/
def Obligations.StopsBetweenInstructions : Prop :=
  ∀ s s₀ : State, s = s₀.switchHart →
    (∀ c info, s.run = .halted c info → step s₀ = .next s) ∧
    (s.attached = false → step s₀ = .next s) ∧
    (s.run = .running → s.attached = true → s.pc = s.cfg.endSimPc →
      step s₀ = .next { s with resumeSkip := false, run := .halted .sentinel s.pc }) ∧
    (s.run = .running → s.attached = true → s.pc ≠ s.cfg.endSimPc → s.resumeSkip = false →
      ∀ pre b post, s.breakpoints = pre ++ b :: post →
      (∀ c ∈ pre, ¬(c.addr = s.pc ∧ c.enabled = true)) → b.addr = s.pc → b.enabled = true →
      step s₀ = .next { s with
        breakpoints := pre ++ { b with enabled := !b.temporary } :: post, run := .halted .breakpointHit s.pc }) ∧
    (s.run = .running → s.attached = true → s.pc ≠ s.cfg.endSimPc → s.resumeSkip = false →
      (∀ b ∈ s.breakpoints, ¬(b.addr = s.pc ∧ b.enabled = true)) →
      s.cfg.icountStop = some s.icount.toNat → step s₀ = .next { s with run := .halted .icountStop s.icount })

/-- The fetch that fails: an odd `pc` first, then the null page; bytes outside the allocated set leave the model stuck (log entry
7); and a word that is no instruction halts as unimplemented, with its bits, as does a vector-form word without a vector unit
(spec/60_exceptions.md rules R562, R563, R565, R568; spec/20_memory.md rules R81, R95; spec/30_encoding.md rules R120, R148). -/
def Obligations.FetchAndDecodeFaults : Prop :=
  ∀ s s₀ : State, s = s₀.switchHart → s.NoStop →
    (s.pc.getLsbD 0 = true →
      step s₀ = .next { s with resumeSkip := false, run := .halted .instructionAddressMisaligned s.pc }) ∧
    (s.pc.getLsbD 0 = false → s.pc.toNat < s.cfg.nullPageSize →
      step s₀ = .next { s with resumeSkip := false, run := .halted .nullPageAccess s.pc }) ∧
    (s.Fetches →
      let long := (byteAt s s.pc 0).extractLsb' 0 2 = 0b11#2
      let n := if long then 4 else 2
      let w : BitVec 32 := if long then word s s.pc else (half s s.pc).setWidth 32
      (¬AllocatedAll s s.pc n → step s₀ = .fault (.unallocated s.pc)) ∧
      (AllocatedAll s s.pc n → ∀ e, decodeInst w = .error e → e ≠ .vectorForm ∨ s.cfg.hasVectorUnit = false →
        step s₀ = .next { s with
          resumeSkip := false, pcModified := false, run := .halted .unimplementedInstruction (w.setWidth 64) }))

/-- A fatal halt is precise: of the hart that moves nothing but `run` and the run-control marks changes, and nothing of the rest
of the system (spec/60_exceptions.md rule R570). -/
def Obligations.FatalHaltsArePrecise : Prop :=
  ∀ (s s₀ t : State) (c : Cause) (info : Word), s = s₀.switchHart → s.run = .running → step s₀ = .next t →
    t.run = .halted c info → c.fatal = true →
    { t with run := s.run, resumeSkip := s.resumeSkip, pcModified := s.pcModified } = s

/-- `icount` counts completed instructions, one each, an ECALL or EBREAK too, and nothing else (spec/60_exceptions.md rules
R581, R585). -/
def Obligations.CountsCompletedInstructions : Prop :=
  ∀ s s₀ t : State, s = s₀.switchHart → s.run = .running → s.attached = true → step s₀ = .next t →
    t.icount = match t.run with
      | .running => s.icount + 1
      | .halted .environmentCall _ => s.icount + 1
      | .halted .breakpoint _ => s.icount + 1
      | .halted _ _ => s.icount

/-- Whoever moves, the step answers a next state, with the same parameters, allocated set and harts, and takes at most the head of
the model's own schedule; or it is stuck on a byte outside the allocated set (log entry 7), and on nothing else. The hart that
moves is the one the head names, if there is such a hart, and else the one in front; and, isolation, of a hart that does not move
the step changes nothing but a reservation, which it may open (spec/60_exceptions.md rule R583, spec/49_atomics_monitor.md rules
R521, R529, spec/70_reset_and_hazards.md rule R613, log entries 4 and 16). -/
def Obligations.StepTouchesItsHartOnly : Prop :=
  ∀ s : State,
    (∀ t, step s = .next t → t.cfg = s.cfg ∧ t.allocated = s.allocated ∧ t.schedule = s.schedule.tail ∧
      (t.allHarts.map Hart.hartId).Perm (s.allHarts.map Hart.hartId) ∧
      List.Forall₂ OnlyReservationOpened s.switchHart.harts t.harts) ∧
    ((∃ t, step s = .next t) ∨ ∃ a i, i < 8 ∧ ¬Allocated s (a + BitVec.ofNat 64 i) ∧ step s = .fault (.unallocated a)) ∧
    (s.schedule = [] → s.switchHart = s) ∧
    (∀ id rest, s.schedule = id :: rest → (s.attached = true ∧ id = s.hartId ∨ ∀ h ∈ s.harts, h.hartId ≠ id) →
      s.switchHart = { s with schedule := rest }) ∧
    (∀ id rest pre h post, s.schedule = id :: rest → ¬(s.attached = true ∧ id = s.hartId) → s.harts = pre ++ h :: post →
      (∀ g ∈ pre, g.hartId ≠ id) → h.hartId = id →
      s.switchHart = { s with
        toHart := h, attached := true, schedule := rest
        harts := (if s.attached then [s.toHart] else []) ++ (pre ++ post) })

/-- A step keeps the invariant: memory canonical, every `pc` even, `pc_modified` clear, each count within its period, each
pending Local Monitor at the address of its Global Monitor record, no two harts with one identifier, no more harts than
`NUM_HARTS` (spec/10_state.md rules R35, R36; spec/49_atomics_monitor.md rules R524, R528, R530; spec/60_exceptions.md rule
R583). -/
def Obligations.StepKeepsOk : Prop := ∀ s t : State, s.Ok → step s = .next t → t.Ok

/-- The invariant holds after reset, and after the creation of `NUM_HARTS` harts under any parameters; creating a hart adds one
reset hart and its record, destroying one, the hart in front too, removes it and its record and no other, and both keep the
invariant (spec/60_exceptions.md rule R583, spec/70_reset_and_hazards.md rule R600, spec/49_atomics_monitor.md rule R527). That
attaching an identifier in use, or a hart beyond `NUM_HARTS`, changes nothing is the model's own deduction (DEDUCED: log entry 20);
`pc` 0 and the identifiers are the model's choice (log entries 1 and 3), and so is which hart is then in front (log entry 26). -/
def Obligations.ResetIsOk : Prop :=
  State.reset.Ok ∧
  (∀ cfg : Config, 1 ≤ cfg.numHarts → (State.create cfg).Ok ∧ (State.create cfg).allHarts.length = cfg.numHarts ∧
    ∀ h ∈ (State.create cfg).allHarts, h = Hart.reset h.hartId) ∧
  (∀ (s : State) (id : Nat), s.Ok → (s.attach id).Ok ∧ (s.detach id).Ok ∧
    ((∀ h ∈ s.allHarts, h.hartId ≠ id) → s.allHarts.length < s.cfg.numHarts →
      (s.attach id).allHarts.Perm (Hart.reset id :: s.allHarts)) ∧
    ((∃ h ∈ s.allHarts, h.hartId = id) ∨ s.allHarts.length = s.cfg.numHarts → s.attach id = s) ∧
    (s.detach id).allHarts = s.allHarts.filter (fun h => h.hartId ≠ id))

/-! ### Reset and the environment -/

/-- The reset values the spec gives, by its own decision D10 (spec/10_state.md rule R60, spec/92_eei_decisions.md D10; log entry
21); a hart that is not launched stays as it is. -/
def Obligations.ResetValues : Prop :=
  (∀ r : Reg, State.reset.readX r = 0 ∧ State.reset.readF r = 0) ∧ State.reset.fcsr = 0 ∧ State.reset.lm = .open ∧
  State.reset.gm.state = .open ∧ State.reset.gm.failCount = 0 ∧ State.reset.icount = 0 ∧
  State.reset.run = .halted .reset 0 ∧ State.reset.resumeSkip = false ∧ State.reset.breakpoints = [] ∧
  step State.reset = .next State.reset

/-- A launch of a hart that is not Running, by the spec's own decision D11: the first eight arguments in registers, the rest on the
stack, aligned down to `STACK_ALIGN`; `ra` the sentinel; every byte outside the stack arguments and all the rest kept; the
floating-point variant; and a Running hart is not launched (spec/70_reset_and_hazards.md rules R602, R603; spec/20_memory.md rule
R107). -/
def Obligations.LaunchConvention : Prop :=
  (∀ (cfg : Config) (a : Word) (k : Nat), cfg.stackAlign = 2 ^ k →
    (alignDown cfg a).toNat % 2 ^ k = 0 ∧ (alignDown cfg a).toNat ≤ a.toNat ∧ a.toNat < (alignDown cfg a).toNat + 2 ^ k) ∧
  ∀ (s : State) (entry : Word) (args : List Word),
    (s.run = .running → State.launch entry args s = s) ∧
    (s.run ≠ .running → s.attached = true → args.length < 2 ^ 60 →
      let t := State.launch entry args s
      let sp' := alignDown s.cfg (s.readX 2 - BitVec.ofNat 64 (8 * (args.length - 8)))
      t.pc = entry ∧ t.run = .running ∧ t.resumeSkip = false ∧ t.readX 1 = s.cfg.endSimPc ∧ t.readX 2 = sp' ∧
      (∀ k (h : k < args.length), k < 8 → t.readX (BitVec.ofNat 5 (10 + k)) = args[k]) ∧
      (∀ k (h : k < args.length), 8 ≤ k → doubleword t (sp' + BitVec.ofNat 64 (8 * (k - 8))) = args[k]) ∧
      (∀ b : Word, 8 * (args.length - 8) ≤ (b - sp').toNat → Memory.read t.mem b.toNat = Memory.read s.mem b.toNat) ∧
      (∀ r : Reg, r ≠ 1 → r ≠ 2 → ¬(10 ≤ r.toNat ∧ r.toNat < 10 + min 8 args.length) → t.readX r = s.readX r) ∧
      { t with x := s.x, pc := s.pc, run := s.run, resumeSkip := s.resumeSkip, mem := s.mem } = s) ∧
    (s.run ≠ .running → s.attached = true → ∀ d0 d1 : Word, let u := State.launchFp entry d0 d1 s
      (∀ r : Reg, u.readF r = if r = 10 then d0 else if r = 11 then d1 else s.readF r) ∧
      { u with f := s.f } = State.launch entry [] s)

/-- After a runtime call, by the spec's own decision D41 (log entry 14), the hart goes on at `ra`, with the registers of the
contract, `frm` and both monitors unchanged; no other halt is served; and while the hart is Running no act of the environment
changes anything (spec/60_exceptions.md rules R590, R592; spec/20_memory.md rule R107). -/
def Obligations.BridgeContract : Prop :=
  ∀ (s : State) (k : CallKind) (e : HostEffect), let t := s.bridgeReturn k e
    (∀ info, s.run = .halted .environmentCall info → s.attached = true →
      t.run = .running ∧ t.resumeSkip = false ∧ t.pc = s.readX 1 ∧ frmOf t.fcsr = frmOf s.fcsr ∧ t.lm = s.lm ∧ t.gm = s.gm ∧
      t.harts = s.harts ∧ t.icount = s.icount ∧ t.breakpoints = s.breakpoints ∧
      (∀ r : Reg, r ∈ [0, 1, 2, 3, 4, 8, 9, 18, 19, 20, 21, 22, 23, 24, 25, 26, 27] → t.readX r = s.readX r) ∧
      (∀ r : Reg, r ∈ [8, 9, 18, 19, 20, 21, 22, 23, 24, 25, 26, 27] → t.readF r = s.readF r) ∧
      t.readX 10 = (match k with | .plain a | .paired a _ => a | _ => s.readX 10) ∧
      t.readX 11 = (match k with | .paired _ b => b | _ => s.readX 11) ∧
      t.readF 10 = (match k with | .double a => a | _ => s.readF 10)) ∧
    ((∀ info, s.run ≠ .halted .environmentCall info) → t = s) ∧
    (s.run = .running → ∀ (w : EnvWrite) (ranges : List Range) (a : Word) (b : Bool),
      State.envWrite w s = s ∧ State.allocate ranges s = s ∧ State.addBreakpoint a b s = s ∧
      State.toggleBreakpoint a s = s ∧ State.resume b s = s)

/-- Which words are of the vector form; without a vector unit each of them halts the hart. With one, the unit makes its accesses
in turn, each with the checks and notifications of a scalar one; the first that fails halts the hart (or, outside the allocated
set, leaves the model stuck: log entry 7) with no other effect; when none fails, the instruction changes what its accesses
change, `x[rd]`, `f[rd]`, the flags by OR and the unit's own state, and of other harts only reservations. The step runs it as one
instruction of four bytes and counts it (spec/30_encoding.md rule R147, spec/48_vector_interface.md rules R500, R512; that
a halt has no other effect is the spec's own decision D34; what the unit answers is free: log entry 6). -/
def Obligations.VectorPort : Prop :=
  (∀ w : BitVec 32, decodeInst w = .error .vectorForm ↔
    w.extractLsb' 0 7 = 0b1010111#7 ∨
      (w.extractLsb' 0 7 = 0b0000111#7 ∨ w.extractLsb' 0 7 = 0b0100111#7) ∧
        (w.extractLsb' 12 3 = 0#3 ∨ w.extractLsb' 12 3 = 5#3 ∨ w.extractLsb' 12 3 = 6#3 ∨ w.extractLsb' 12 3 = 7#3)) ∧
  (∀ s s₀ : State, s = s₀.switchHart → s.Fetches → AllocatedAll s s.pc 4 → decodeInst (word s s.pc) = .error .vectorForm →
    step s₀ = retireResult 4 (vectorWord (word s s.pc) { s with resumeSkip := false, pcModified := false })) ∧
  (∀ (w : BitVec 32) (s : State),
    (s.cfg.hasVectorUnit = false → vectorWord w s = .next { s with run := .halted .unimplementedInstruction (zext w) }) ∧
    (s.cfg.hasVectorUnit = true →
      let r := Config.vectorUnit (s.vectorRequest w)
      (∀ c a, s.vectorAccesses r.accesses = .error (.halt c a) → vectorWord w s = .next { s with run := .halted c a }) ∧
      (∀ a, s.vectorAccesses r.accesses = .error (.unallocated a) → vectorWord w s = .fault (.unallocated a)) ∧
      (∀ u, s.vectorAccesses r.accesses = .ok u → ∃ t, vectorWord w s = .next t ∧
        t.mem = u.mem ∧ t.lm = u.lm ∧ t.harts = u.harts ∧ List.Forall₂ OnlyReservationOpened s.harts t.harts ∧
        (∀ k, t.readX k = if k = 0 then 0 else if k = w.extractLsb' 7 5 then r.xrd.getD (s.readX k) else s.readX k) ∧
        (∀ k, t.readF k = if k = w.extractLsb' 7 5 then r.frd.getD (s.readF k) else s.readF k) ∧
        fflagsOf t.fcsr = fflagsOf s.fcsr ||| r.flags ∧ frmOf t.fcsr = frmOf s.fcsr ∧ t.vecUnit = r.unit ∧
        { t with
          x := s.x, f := s.f, fcsr := s.fcsr, mem := s.mem, lm := s.lm, harts := s.harts, vecUnit := s.vecUnit } = s))) ∧
  ∀ (s : State) (a v : Word) (k : Fin 4) (rest : List VectorAccess),
    s.vectorAccesses [] = .ok s ∧
    (∀ access ∈ [VectorAccess.read a k, .write a k v],
      (a.toNat < s.cfg.nullPageSize → s.vectorAccesses (access :: rest) = .error (.halt .nullPageAccess a)) ∧
      (s.cfg.nullPageSize ≤ a.toNat → s.cfg.requireAlignment = true → a.toNat % 2 ^ k.val ≠ 0 →
        s.vectorAccesses (access :: rest) = .error (.halt .misalignedAccess a)) ∧
      (OrdinaryPasses s a (2 ^ k.val) → ¬AllocatedAll s a (2 ^ k.val) →
        s.vectorAccesses (access :: rest) = .error (.unallocated a))) ∧
    (OrdinaryOk s a (2 ^ k.val) →
      s.vectorAccesses (.read a k :: rest) = State.vectorAccesses { s with lm := .open } rest ∧
      ∃ u, s.vectorAccesses (.write a k v :: rest) = u.vectorAccesses rest ∧ BytesStored s.mem u.mem a (2 ^ k.val) v ∧
        u.lm = .open ∧ OthersNotified s u a (2 ^ k.val) ∧ { u with mem := s.mem, lm := s.lm, harts := s.harts } = s)
end

