-- ==== Sys2Proof/Laws/Memory.lean ====
section
/-! SUPPORT. Memory: what a read gives after a write, byte by byte, and that every operation keeps the canonical form. -/

namespace Sys2Proof.Machine

theorem Memory.read_drop (m : Memory) (a b : Nat) :
    Memory.read (Memory.drop m a) b = if a = b then 0 else Memory.read m b := by
  induction m with
  | nil => simp [Memory.drop, Memory.read]
  | cons c m ih =>
    obtain ⟨k, v⟩ := c
    simp only [Memory.drop, Memory.read]
    split
    · rw [ih]; subst_vars; split <;> rfl
    · simp only [Memory.read, ih]
      split
      · next hb => rw [if_neg (by omega)]
      · rfl

theorem Memory.mem_drop {m : Memory} {a : Nat} {c : Host.Cell} (h : c ∈ Memory.drop m a) : c ∈ m ∧ c.1 ≠ a := by
  induction m with
  | nil => simp [Memory.drop] at h
  | cons d m ih =>
    by_cases hk : d.1 = a
    · simp only [Memory.drop, hk, if_true] at h
      exact ⟨List.mem_cons_of_mem _ (ih h).1, (ih h).2⟩
    · simp only [Memory.drop, hk, if_false, List.mem_cons] at h
      rcases h with rfl | h
      · exact ⟨List.mem_cons_self, hk⟩
      · exact ⟨List.mem_cons_of_mem _ (ih h).1, (ih h).2⟩

theorem Memory.read_place (m : Memory) (a b : Nat) (v : Byte) (h : ∀ c ∈ m, c.1 ≠ a) :
    Memory.read (Memory.place m a v) b = if a = b then v else Memory.read m b := by
  induction m with
  | nil => simp [Memory.place, Memory.read]
  | cons c m ih =>
    have hc : c.1 ≠ a := h c List.mem_cons_self
    have ih := ih fun d hd => h d (List.mem_cons_of_mem _ hd)
    obtain ⟨k, w⟩ := c
    have hk : k ≠ a := hc
    simp only [Memory.place]
    split
    · rfl
    · simp only [Memory.read, ih]
      split
      · next hb => rw [if_neg (by omega)]
      · rfl

/-- A byte read after a byte write: the value written there, the old byte elsewhere. -/
theorem Memory.read_write (m : Memory) (a b : Nat) (v : Byte) :
    Memory.read (Memory.write m a v) b = if a = b then v else Memory.read m b := by
  unfold Memory.write
  split
  · next h => subst h; exact Memory.read_drop m a b
  · rw [Memory.read_place _ _ _ _ fun c hc => (Memory.mem_drop hc).2, Memory.read_drop]
    split <;> rfl

/-! ### The canonical form -/

theorem Memory.risingFrom_mono {a b : Nat} {m : Memory} (h : Memory.risingFrom b m = true) (hab : a ≤ b) :
    Memory.risingFrom a m = true := by
  cases m with
  | nil => rfl
  | cons c m =>
    simp only [Memory.risingFrom, Bool.and_eq_true, decide_eq_true_eq] at h ⊢
    exact ⟨by omega, h.2⟩

theorem Memory.risingFrom_drop {a b : Nat} {m : Memory} (h : Memory.risingFrom b m = true) :
    Memory.risingFrom b (Memory.drop m a) = true := by
  induction m generalizing b with
  | nil => rfl
  | cons c m ih =>
    simp only [Memory.risingFrom, Bool.and_eq_true, decide_eq_true_eq] at h
    by_cases hk : c.1 = a
    · simp only [Memory.drop, hk, if_true]
      exact Memory.risingFrom_mono (ih h.2) (by omega)
    · simp only [Memory.drop, hk, if_false, Memory.risingFrom, Bool.and_eq_true, decide_eq_true_eq]
      exact ⟨h.1, ih h.2⟩

theorem Memory.risingFrom_place {a b : Nat} {v : Byte} {m : Memory} (h : Memory.risingFrom b m = true) (hab : b < a)
    (hm : ∀ c ∈ m, c.1 ≠ a) : Memory.risingFrom b (Memory.place m a v) = true := by
  induction m generalizing b with
  | nil => simp [Memory.place, Memory.risingFrom, hab]
  | cons c m ih =>
    have hc : c.1 ≠ a := hm c List.mem_cons_self
    simp only [Memory.risingFrom, Bool.and_eq_true, decide_eq_true_eq] at h
    by_cases hlt : a < c.1
    · simp [Memory.place, hlt, Memory.risingFrom, hab, h.2]
    · simp only [Memory.place, hlt, if_false, Memory.risingFrom, Bool.and_eq_true, decide_eq_true_eq]
      exact ⟨h.1, ih h.2 (by omega) fun d hd => hm d (List.mem_cons_of_mem _ hd)⟩

theorem Memory.rising_drop {a : Nat} {m : Memory} (h : Memory.rising m = true) : Memory.rising (Memory.drop m a) = true := by
  cases m with
  | nil => rfl
  | cons c m =>
    by_cases hk : c.1 = a
    · simp only [Memory.drop, hk, if_true]
      have := Memory.risingFrom_drop (a := a) h
      cases hd : Memory.drop m a with
      | nil => rfl
      | cons d l =>
        rw [hd] at this
        simp only [Memory.risingFrom, Bool.and_eq_true] at this
        exact this.2
    · simp only [Memory.drop, hk, if_false, Memory.rising]
      exact Memory.risingFrom_drop h

theorem Memory.rising_place {a : Nat} {v : Byte} {m : Memory} (h : Memory.rising m = true) (hm : ∀ c ∈ m, c.1 ≠ a) :
    Memory.rising (Memory.place m a v) = true := by
  cases m with
  | nil => rfl
  | cons c m =>
    have hc : c.1 ≠ a := hm c List.mem_cons_self
    by_cases hlt : a < c.1
    · simp only [Memory.place, hlt, if_true, Memory.rising, Memory.risingFrom, Bool.and_eq_true, decide_eq_true_eq]
      exact ⟨trivial, h⟩
    · simp only [Memory.place, hlt, if_false, Memory.rising]
      exact Memory.risingFrom_place h (by omega) fun d hd => hm d (List.mem_cons_of_mem _ hd)

theorem Memory.mem_place {m : Memory} {a : Nat} {v : Byte} {c : Host.Cell} (h : c ∈ Memory.place m a v) :
    c = (a, v) ∨ c ∈ m := by
  induction m with
  | nil => simpa [Memory.place] using h
  | cons d m ih =>
    by_cases hlt : a < d.1
    · simpa [Memory.place, hlt] using h
    · simp only [Memory.place, hlt, if_false, List.mem_cons] at h ⊢
      rcases h with rfl | h
      · exact .inr (.inl rfl)
      · exact (ih h).imp id .inr

theorem Memory.wf_iff (m : Memory) :
    Memory.wf m = true ↔ Memory.rising m = true ∧ ∀ c ∈ m, c.1 < 2 ^ 64 ∧ c.2 ≠ 0 := by
  simp [Memory.wf, List.all_eq_true]

/-- A byte write keeps the canonical form. -/
theorem Memory.wf_write {m : Memory} {a : Nat} {v : Byte} (h : Memory.wf m = true) (ha : a < 2 ^ 64) :
    Memory.wf (Memory.write m a v) = true := by
  rw [Memory.wf_iff] at h ⊢
  unfold Memory.write
  split
  · exact ⟨Memory.rising_drop h.1, fun c hc => h.2 c (Memory.mem_drop hc).1⟩
  · next hv =>
    refine ⟨Memory.rising_place (Memory.rising_drop h.1) fun c hc => (Memory.mem_drop hc).2, fun c hc => ?_⟩
    rcases Memory.mem_place hc with rfl | hc
    · exact ⟨ha, hv⟩
    · exact h.2 c (Memory.mem_drop hc).1

/-- A little-endian store keeps the canonical form. -/
theorem Memory.wf_writeLE {m : Memory} (a : Word) (n : Nat) (v : Word) (h : Memory.wf m = true) :
    Memory.wf (Memory.writeLE m a n v) = true := by
  induction n generalizing m a v with
  | zero => exact h
  | succ n ih => exact ih _ _ (Memory.wf_write h a.isLt)

/-! ### Little-endian accesses -/

/-- After a store of `n` bytes at `a`: byte `i` of the value at `a + i`, every other byte as before. -/
theorem Memory.read_writeLE (m : Memory) (a b : Word) (n : Nat) (v : Word) (hn : n ≤ 8) :
    Memory.read (Memory.writeLE m a n v) b.toNat =
      if (b - a).toNat < n then (v >>> (8 * (b - a).toNat)).setWidth 8 else Memory.read m b.toNat := by
  induction n generalizing m a v with
  | zero => simp [Memory.writeLE]
  | succ n ih =>
    rw [Memory.writeLE, ih _ _ _ (by omega), Memory.read_write]
    by_cases hab : a = b
    · subst hab
      have h0 : (a - (a + 1)).toNat = 2 ^ 64 - 1 := by
        rw [show a - (a + 1) = -1#64 by rw [sub_add_eq_sub_sub, sub_self, zero_sub]; rfl]; rfl
      rw [h0, if_neg (by omega), if_pos rfl]
      simp
    · have hne : a.toNat ≠ b.toNat := fun h => hab (BitVec.eq_of_toNat_eq h)
      have h1 : (b - a).toNat = (b - (a + 1)).toNat + 1 := by
        rw [show b - (a + 1) = b - a - 1 from sub_add_eq_sub_sub b a 1]
        have : b - a ≠ 0 := fun h => hab (sub_eq_zero.mp h).symm
        have hpos : (b - a).toNat ≠ 0 := fun h => this (BitVec.eq_of_toNat_eq h)
        generalize b - a = d at hpos
        have h1 : BitVec.toNat (1 : Word) = 1 := rfl
        rw [BitVec.toNat_sub, h1]
        omega
      rw [if_neg hne, h1]
      by_cases hlt : (b - (a + 1)).toNat < n
      · rw [if_pos hlt, if_pos (by omega)]
        apply BitVec.eq_of_getLsbD_eq
        intro i hi
        simp only [BitVec.getLsbD_setWidth, BitVec.getLsbD_ushiftRight]
        congr 2
        omega
      · rw [if_neg hlt, if_neg (by omega)]

/-- Bit `i` of a load of `n` bytes at `a` is bit `i mod 8` of the byte at `a + i / 8`. -/
theorem Memory.getLsbD_readLE (m : Memory) (a : Word) (n i : Nat) (hn : n ≤ 8) :
    (Memory.readLE m a n).getLsbD i =
      (decide (i < 8 * n) && (Memory.read m (a + BitVec.ofNat 64 (i / 8)).toNat).getLsbD (i % 8)) := by
  induction n generalizing a i with
  | zero => simp [Memory.readLE]
  | succ n ih =>
    rw [Memory.readLE, BitVec.getLsbD_or, BitVec.getLsbD_shiftLeft, ih _ _ (by omega), zext, BitVec.getLsbD_setWidth]
    by_cases hi : i < 8
    · have h0 : i / 8 = 0 := by omega
      have h1 : i % 8 = i := by omega
      simp [hi, h0, h1, show i < 64 by omega, show i < 8 * (n + 1) by omega]
    · by_cases hi64 : i < 64
      · have h2 : (i - 8) / 8 + 1 = i / 8 := by omega
        have h3 : (i - 8) % 8 = i % 8 := by omega
        have h4 : a + 1 + BitVec.ofNat 64 ((i - 8) / 8) = a + BitVec.ofNat 64 (i / 8) := by
          rw [← h2, BitVec.add_assoc]
          congr 1
          apply BitVec.eq_of_toNat_eq
          simp [Nat.add_comm]
        have h5 : decide (i - 8 < 8 * n) = decide (i < 8 * (n + 1)) := by
          congr 1
          exact propext (by omega)
        rw [h4, h3, h5]
        simp [hi, hi64, BitVec.getLsbD_of_ge _ i (by omega : 8 ≤ i)]
      · simp [hi64, show ¬ i < 8 * (n + 1) by omega]

end Sys2Proof.Machine
end

