-- ==== Sys2Proof/Laws/State.lean ====
section
/-! SUPPORT. For every operation of Machine/Ops.lean that updates the state, what each field is after it. -/

namespace Sys2Proof.Machine

variable (s : State)

@[simp] theorem State.writeX_hartId (rd : Reg) (v : Word) : (s.writeX rd v).hartId = s.hartId := rfl
@[simp] theorem State.writeX_x (rd : Reg) (v : Word) : (s.writeX rd v).x = setX s.x rd v := rfl
@[simp] theorem State.writeX_f (rd : Reg) (v : Word) : (s.writeX rd v).f = s.f := rfl
@[simp] theorem State.writeX_pc (rd : Reg) (v : Word) : (s.writeX rd v).pc = s.pc := rfl
@[simp] theorem State.writeX_pcModified (rd : Reg) (v : Word) : (s.writeX rd v).pcModified = s.pcModified := rfl
@[simp] theorem State.writeX_fcsr (rd : Reg) (v : Word) : (s.writeX rd v).fcsr = s.fcsr := rfl
@[simp] theorem State.writeX_lm (rd : Reg) (v : Word) : (s.writeX rd v).lm = s.lm := rfl
@[simp] theorem State.writeX_gm (rd : Reg) (v : Word) : (s.writeX rd v).gm = s.gm := rfl
@[simp] theorem State.writeX_icount (rd : Reg) (v : Word) : (s.writeX rd v).icount = s.icount := rfl
@[simp] theorem State.writeX_run (rd : Reg) (v : Word) : (s.writeX rd v).run = s.run := rfl
@[simp] theorem State.writeX_resumeSkip (rd : Reg) (v : Word) : (s.writeX rd v).resumeSkip = s.resumeSkip := rfl
@[simp] theorem State.writeX_breakpoints (rd : Reg) (v : Word) : (s.writeX rd v).breakpoints = s.breakpoints := rfl
@[simp] theorem State.writeX_vecUnit (rd : Reg) (v : Word) : (s.writeX rd v).vecUnit = s.vecUnit := rfl
@[simp] theorem State.writeX_attached (rd : Reg) (v : Word) : (s.writeX rd v).attached = s.attached := rfl
@[simp] theorem State.writeX_harts (rd : Reg) (v : Word) : (s.writeX rd v).harts = s.harts := rfl
@[simp] theorem State.writeX_mem (rd : Reg) (v : Word) : (s.writeX rd v).mem = s.mem := rfl
@[simp] theorem State.writeX_allocated (rd : Reg) (v : Word) : (s.writeX rd v).allocated = s.allocated := rfl
@[simp] theorem State.writeX_cfg (rd : Reg) (v : Word) : (s.writeX rd v).cfg = s.cfg := rfl
@[simp] theorem State.writeX_schedule (rd : Reg) (v : Word) : (s.writeX rd v).schedule = s.schedule := rfl

@[simp] theorem State.writeF_hartId (rd : Reg) (v : Word) : (s.writeF rd v).hartId = s.hartId := rfl
@[simp] theorem State.writeF_x (rd : Reg) (v : Word) : (s.writeF rd v).x = s.x := rfl
@[simp] theorem State.writeF_f (rd : Reg) (v : Word) : (s.writeF rd v).f = s.f.set rd.toNat v rd.isLt := rfl
@[simp] theorem State.writeF_pc (rd : Reg) (v : Word) : (s.writeF rd v).pc = s.pc := rfl
@[simp] theorem State.writeF_pcModified (rd : Reg) (v : Word) : (s.writeF rd v).pcModified = s.pcModified := rfl
@[simp] theorem State.writeF_fcsr (rd : Reg) (v : Word) : (s.writeF rd v).fcsr = s.fcsr := rfl
@[simp] theorem State.writeF_lm (rd : Reg) (v : Word) : (s.writeF rd v).lm = s.lm := rfl
@[simp] theorem State.writeF_gm (rd : Reg) (v : Word) : (s.writeF rd v).gm = s.gm := rfl
@[simp] theorem State.writeF_icount (rd : Reg) (v : Word) : (s.writeF rd v).icount = s.icount := rfl
@[simp] theorem State.writeF_run (rd : Reg) (v : Word) : (s.writeF rd v).run = s.run := rfl
@[simp] theorem State.writeF_resumeSkip (rd : Reg) (v : Word) : (s.writeF rd v).resumeSkip = s.resumeSkip := rfl
@[simp] theorem State.writeF_breakpoints (rd : Reg) (v : Word) : (s.writeF rd v).breakpoints = s.breakpoints := rfl
@[simp] theorem State.writeF_vecUnit (rd : Reg) (v : Word) : (s.writeF rd v).vecUnit = s.vecUnit := rfl
@[simp] theorem State.writeF_attached (rd : Reg) (v : Word) : (s.writeF rd v).attached = s.attached := rfl
@[simp] theorem State.writeF_harts (rd : Reg) (v : Word) : (s.writeF rd v).harts = s.harts := rfl
@[simp] theorem State.writeF_mem (rd : Reg) (v : Word) : (s.writeF rd v).mem = s.mem := rfl
@[simp] theorem State.writeF_allocated (rd : Reg) (v : Word) : (s.writeF rd v).allocated = s.allocated := rfl
@[simp] theorem State.writeF_cfg (rd : Reg) (v : Word) : (s.writeF rd v).cfg = s.cfg := rfl
@[simp] theorem State.writeF_schedule (rd : Reg) (v : Word) : (s.writeF rd v).schedule = s.schedule := rfl

@[simp] theorem State.writeS_hartId (rd : Reg) (w : BitVec 32) : (s.writeS rd w).hartId = s.hartId := rfl
@[simp] theorem State.writeS_x (rd : Reg) (w : BitVec 32) : (s.writeS rd w).x = s.x := rfl
@[simp] theorem State.writeS_f (rd : Reg) (w : BitVec 32) : (s.writeS rd w).f = s.f.set rd.toNat (box32 w) rd.isLt := rfl
@[simp] theorem State.writeS_pc (rd : Reg) (w : BitVec 32) : (s.writeS rd w).pc = s.pc := rfl
@[simp] theorem State.writeS_pcModified (rd : Reg) (w : BitVec 32) : (s.writeS rd w).pcModified = s.pcModified := rfl
@[simp] theorem State.writeS_fcsr (rd : Reg) (w : BitVec 32) : (s.writeS rd w).fcsr = s.fcsr := rfl
@[simp] theorem State.writeS_lm (rd : Reg) (w : BitVec 32) : (s.writeS rd w).lm = s.lm := rfl
@[simp] theorem State.writeS_gm (rd : Reg) (w : BitVec 32) : (s.writeS rd w).gm = s.gm := rfl
@[simp] theorem State.writeS_icount (rd : Reg) (w : BitVec 32) : (s.writeS rd w).icount = s.icount := rfl
@[simp] theorem State.writeS_run (rd : Reg) (w : BitVec 32) : (s.writeS rd w).run = s.run := rfl
@[simp] theorem State.writeS_resumeSkip (rd : Reg) (w : BitVec 32) : (s.writeS rd w).resumeSkip = s.resumeSkip := rfl
@[simp] theorem State.writeS_breakpoints (rd : Reg) (w : BitVec 32) : (s.writeS rd w).breakpoints = s.breakpoints := rfl
@[simp] theorem State.writeS_vecUnit (rd : Reg) (w : BitVec 32) : (s.writeS rd w).vecUnit = s.vecUnit := rfl
@[simp] theorem State.writeS_attached (rd : Reg) (w : BitVec 32) : (s.writeS rd w).attached = s.attached := rfl
@[simp] theorem State.writeS_harts (rd : Reg) (w : BitVec 32) : (s.writeS rd w).harts = s.harts := rfl
@[simp] theorem State.writeS_mem (rd : Reg) (w : BitVec 32) : (s.writeS rd w).mem = s.mem := rfl
@[simp] theorem State.writeS_allocated (rd : Reg) (w : BitVec 32) : (s.writeS rd w).allocated = s.allocated := rfl
@[simp] theorem State.writeS_cfg (rd : Reg) (w : BitVec 32) : (s.writeS rd w).cfg = s.cfg := rfl
@[simp] theorem State.writeS_schedule (rd : Reg) (w : BitVec 32) : (s.writeS rd w).schedule = s.schedule := rfl

@[simp] theorem State.raise_hartId (fl : Flags) : (s.raise fl).hartId = s.hartId := rfl
@[simp] theorem State.raise_x (fl : Flags) : (s.raise fl).x = s.x := rfl
@[simp] theorem State.raise_f (fl : Flags) : (s.raise fl).f = s.f := rfl
@[simp] theorem State.raise_pc (fl : Flags) : (s.raise fl).pc = s.pc := rfl
@[simp] theorem State.raise_pcModified (fl : Flags) : (s.raise fl).pcModified = s.pcModified := rfl
@[simp] theorem State.raise_fcsr (fl : Flags) : (s.raise fl).fcsr = s.fcsr ||| fl.setWidth 8 := rfl
@[simp] theorem State.raise_lm (fl : Flags) : (s.raise fl).lm = s.lm := rfl
@[simp] theorem State.raise_gm (fl : Flags) : (s.raise fl).gm = s.gm := rfl
@[simp] theorem State.raise_icount (fl : Flags) : (s.raise fl).icount = s.icount := rfl
@[simp] theorem State.raise_run (fl : Flags) : (s.raise fl).run = s.run := rfl
@[simp] theorem State.raise_resumeSkip (fl : Flags) : (s.raise fl).resumeSkip = s.resumeSkip := rfl
@[simp] theorem State.raise_breakpoints (fl : Flags) : (s.raise fl).breakpoints = s.breakpoints := rfl
@[simp] theorem State.raise_vecUnit (fl : Flags) : (s.raise fl).vecUnit = s.vecUnit := rfl
@[simp] theorem State.raise_attached (fl : Flags) : (s.raise fl).attached = s.attached := rfl
@[simp] theorem State.raise_harts (fl : Flags) : (s.raise fl).harts = s.harts := rfl
@[simp] theorem State.raise_mem (fl : Flags) : (s.raise fl).mem = s.mem := rfl
@[simp] theorem State.raise_allocated (fl : Flags) : (s.raise fl).allocated = s.allocated := rfl
@[simp] theorem State.raise_cfg (fl : Flags) : (s.raise fl).cfg = s.cfg := rfl
@[simp] theorem State.raise_schedule (fl : Flags) : (s.raise fl).schedule = s.schedule := rfl

@[simp] theorem State.jump_hartId (t : Word) : (s.jump t).hartId = s.hartId := rfl
@[simp] theorem State.jump_x (t : Word) : (s.jump t).x = s.x := rfl
@[simp] theorem State.jump_f (t : Word) : (s.jump t).f = s.f := rfl
@[simp] theorem State.jump_pc (t : Word) : (s.jump t).pc = t := rfl
@[simp] theorem State.jump_pcModified (t : Word) : (s.jump t).pcModified = true := rfl
@[simp] theorem State.jump_fcsr (t : Word) : (s.jump t).fcsr = s.fcsr := rfl
@[simp] theorem State.jump_lm (t : Word) : (s.jump t).lm = s.lm := rfl
@[simp] theorem State.jump_gm (t : Word) : (s.jump t).gm = s.gm := rfl
@[simp] theorem State.jump_icount (t : Word) : (s.jump t).icount = s.icount := rfl
@[simp] theorem State.jump_run (t : Word) : (s.jump t).run = s.run := rfl
@[simp] theorem State.jump_resumeSkip (t : Word) : (s.jump t).resumeSkip = s.resumeSkip := rfl
@[simp] theorem State.jump_breakpoints (t : Word) : (s.jump t).breakpoints = s.breakpoints := rfl
@[simp] theorem State.jump_vecUnit (t : Word) : (s.jump t).vecUnit = s.vecUnit := rfl
@[simp] theorem State.jump_attached (t : Word) : (s.jump t).attached = s.attached := rfl
@[simp] theorem State.jump_harts (t : Word) : (s.jump t).harts = s.harts := rfl
@[simp] theorem State.jump_mem (t : Word) : (s.jump t).mem = s.mem := rfl
@[simp] theorem State.jump_allocated (t : Word) : (s.jump t).allocated = s.allocated := rfl
@[simp] theorem State.jump_cfg (t : Word) : (s.jump t).cfg = s.cfg := rfl
@[simp] theorem State.jump_schedule (t : Word) : (s.jump t).schedule = s.schedule := rfl

@[simp] theorem State.halt_hartId (c : Cause) (i : Word) : (s.halt c i).hartId = s.hartId := rfl
@[simp] theorem State.halt_x (c : Cause) (i : Word) : (s.halt c i).x = s.x := rfl
@[simp] theorem State.halt_f (c : Cause) (i : Word) : (s.halt c i).f = s.f := rfl
@[simp] theorem State.halt_pc (c : Cause) (i : Word) : (s.halt c i).pc = s.pc := rfl
@[simp] theorem State.halt_pcModified (c : Cause) (i : Word) : (s.halt c i).pcModified = s.pcModified := rfl
@[simp] theorem State.halt_fcsr (c : Cause) (i : Word) : (s.halt c i).fcsr = s.fcsr := rfl
@[simp] theorem State.halt_lm (c : Cause) (i : Word) : (s.halt c i).lm = s.lm := rfl
@[simp] theorem State.halt_gm (c : Cause) (i : Word) : (s.halt c i).gm = s.gm := rfl
@[simp] theorem State.halt_icount (c : Cause) (i : Word) : (s.halt c i).icount = s.icount := rfl
@[simp] theorem State.halt_run (c : Cause) (i : Word) : (s.halt c i).run = .halted c i := rfl
@[simp] theorem State.halt_resumeSkip (c : Cause) (i : Word) : (s.halt c i).resumeSkip = s.resumeSkip := rfl
@[simp] theorem State.halt_breakpoints (c : Cause) (i : Word) : (s.halt c i).breakpoints = s.breakpoints := rfl
@[simp] theorem State.halt_vecUnit (c : Cause) (i : Word) : (s.halt c i).vecUnit = s.vecUnit := rfl
@[simp] theorem State.halt_attached (c : Cause) (i : Word) : (s.halt c i).attached = s.attached := rfl
@[simp] theorem State.halt_harts (c : Cause) (i : Word) : (s.halt c i).harts = s.harts := rfl
@[simp] theorem State.halt_mem (c : Cause) (i : Word) : (s.halt c i).mem = s.mem := rfl
@[simp] theorem State.halt_allocated (c : Cause) (i : Word) : (s.halt c i).allocated = s.allocated := rfl
@[simp] theorem State.halt_cfg (c : Cause) (i : Word) : (s.halt c i).cfg = s.cfg := rfl
@[simp] theorem State.halt_schedule (c : Cause) (i : Word) : (s.halt c i).schedule = s.schedule := rfl

@[simp] theorem State.notifyLoad_hartId : (s.notifyLoad).hartId = s.hartId := rfl
@[simp] theorem State.notifyLoad_x : (s.notifyLoad).x = s.x := rfl
@[simp] theorem State.notifyLoad_f : (s.notifyLoad).f = s.f := rfl
@[simp] theorem State.notifyLoad_pc : (s.notifyLoad).pc = s.pc := rfl
@[simp] theorem State.notifyLoad_pcModified : (s.notifyLoad).pcModified = s.pcModified := rfl
@[simp] theorem State.notifyLoad_fcsr : (s.notifyLoad).fcsr = s.fcsr := rfl
@[simp] theorem State.notifyLoad_lm : (s.notifyLoad).lm = .open := rfl
@[simp] theorem State.notifyLoad_gm : (s.notifyLoad).gm = s.gm := rfl
@[simp] theorem State.notifyLoad_icount : (s.notifyLoad).icount = s.icount := rfl
@[simp] theorem State.notifyLoad_run : (s.notifyLoad).run = s.run := rfl
@[simp] theorem State.notifyLoad_resumeSkip : (s.notifyLoad).resumeSkip = s.resumeSkip := rfl
@[simp] theorem State.notifyLoad_breakpoints : (s.notifyLoad).breakpoints = s.breakpoints := rfl
@[simp] theorem State.notifyLoad_vecUnit : (s.notifyLoad).vecUnit = s.vecUnit := rfl
@[simp] theorem State.notifyLoad_attached : (s.notifyLoad).attached = s.attached := rfl
@[simp] theorem State.notifyLoad_harts : (s.notifyLoad).harts = s.harts := rfl
@[simp] theorem State.notifyLoad_mem : (s.notifyLoad).mem = s.mem := rfl
@[simp] theorem State.notifyLoad_allocated : (s.notifyLoad).allocated = s.allocated := rfl
@[simp] theorem State.notifyLoad_cfg : (s.notifyLoad).cfg = s.cfg := rfl
@[simp] theorem State.notifyLoad_schedule : (s.notifyLoad).schedule = s.schedule := rfl

@[simp] theorem State.notifyLoadLinked_hartId (a : Word) (z : MonitorSize) : (s.notifyLoadLinked a z).hartId = s.hartId := rfl
@[simp] theorem State.notifyLoadLinked_x (a : Word) (z : MonitorSize) : (s.notifyLoadLinked a z).x = s.x := rfl
@[simp] theorem State.notifyLoadLinked_f (a : Word) (z : MonitorSize) : (s.notifyLoadLinked a z).f = s.f := rfl
@[simp] theorem State.notifyLoadLinked_pc (a : Word) (z : MonitorSize) : (s.notifyLoadLinked a z).pc = s.pc := rfl
@[simp] theorem State.notifyLoadLinked_pcModified (a : Word) (z : MonitorSize) : (s.notifyLoadLinked a z).pcModified = s.pcModified := rfl
@[simp] theorem State.notifyLoadLinked_fcsr (a : Word) (z : MonitorSize) : (s.notifyLoadLinked a z).fcsr = s.fcsr := rfl
@[simp] theorem State.notifyLoadLinked_lm (a : Word) (z : MonitorSize) : (s.notifyLoadLinked a z).lm = .rmw a z := rfl
@[simp] theorem State.notifyLoadLinked_gm (a : Word) (z : MonitorSize) : (s.notifyLoadLinked a z).gm = s.gm := rfl
@[simp] theorem State.notifyLoadLinked_icount (a : Word) (z : MonitorSize) : (s.notifyLoadLinked a z).icount = s.icount := rfl
@[simp] theorem State.notifyLoadLinked_run (a : Word) (z : MonitorSize) : (s.notifyLoadLinked a z).run = s.run := rfl
@[simp] theorem State.notifyLoadLinked_resumeSkip (a : Word) (z : MonitorSize) : (s.notifyLoadLinked a z).resumeSkip = s.resumeSkip := rfl
@[simp] theorem State.notifyLoadLinked_breakpoints (a : Word) (z : MonitorSize) : (s.notifyLoadLinked a z).breakpoints = s.breakpoints := rfl
@[simp] theorem State.notifyLoadLinked_vecUnit (a : Word) (z : MonitorSize) : (s.notifyLoadLinked a z).vecUnit = s.vecUnit := rfl
@[simp] theorem State.notifyLoadLinked_attached (a : Word) (z : MonitorSize) : (s.notifyLoadLinked a z).attached = s.attached := rfl
@[simp] theorem State.notifyLoadLinked_harts (a : Word) (z : MonitorSize) : (s.notifyLoadLinked a z).harts = s.harts := rfl
@[simp] theorem State.notifyLoadLinked_mem (a : Word) (z : MonitorSize) : (s.notifyLoadLinked a z).mem = s.mem := rfl
@[simp] theorem State.notifyLoadLinked_allocated (a : Word) (z : MonitorSize) : (s.notifyLoadLinked a z).allocated = s.allocated := rfl
@[simp] theorem State.notifyLoadLinked_cfg (a : Word) (z : MonitorSize) : (s.notifyLoadLinked a z).cfg = s.cfg := rfl
@[simp] theorem State.notifyLoadLinked_schedule (a : Word) (z : MonitorSize) : (s.notifyLoadLinked a z).schedule = s.schedule := rfl

@[simp] theorem State.notifyStoreConditional_hartId : (s.notifyStoreConditional).hartId = s.hartId := rfl
@[simp] theorem State.notifyStoreConditional_x : (s.notifyStoreConditional).x = s.x := rfl
@[simp] theorem State.notifyStoreConditional_f : (s.notifyStoreConditional).f = s.f := rfl
@[simp] theorem State.notifyStoreConditional_pc : (s.notifyStoreConditional).pc = s.pc := rfl
@[simp] theorem State.notifyStoreConditional_pcModified : (s.notifyStoreConditional).pcModified = s.pcModified := rfl
@[simp] theorem State.notifyStoreConditional_fcsr : (s.notifyStoreConditional).fcsr = s.fcsr := rfl
@[simp] theorem State.notifyStoreConditional_lm : (s.notifyStoreConditional).lm = .open := rfl
@[simp] theorem State.notifyStoreConditional_gm : (s.notifyStoreConditional).gm = s.gm := rfl
@[simp] theorem State.notifyStoreConditional_icount : (s.notifyStoreConditional).icount = s.icount := rfl
@[simp] theorem State.notifyStoreConditional_run : (s.notifyStoreConditional).run = s.run := rfl
@[simp] theorem State.notifyStoreConditional_resumeSkip : (s.notifyStoreConditional).resumeSkip = s.resumeSkip := rfl
@[simp] theorem State.notifyStoreConditional_breakpoints : (s.notifyStoreConditional).breakpoints = s.breakpoints := rfl
@[simp] theorem State.notifyStoreConditional_vecUnit : (s.notifyStoreConditional).vecUnit = s.vecUnit := rfl
@[simp] theorem State.notifyStoreConditional_attached : (s.notifyStoreConditional).attached = s.attached := rfl
@[simp] theorem State.notifyStoreConditional_harts : (s.notifyStoreConditional).harts = s.harts := rfl
@[simp] theorem State.notifyStoreConditional_mem : (s.notifyStoreConditional).mem = s.mem := rfl
@[simp] theorem State.notifyStoreConditional_allocated : (s.notifyStoreConditional).allocated = s.allocated := rfl
@[simp] theorem State.notifyStoreConditional_cfg : (s.notifyStoreConditional).cfg = s.cfg := rfl
@[simp] theorem State.notifyStoreConditional_schedule : (s.notifyStoreConditional).schedule = s.schedule := rfl

@[simp] theorem State.globalLoadLinked_hartId (a : Word) : (s.globalLoadLinked a).hartId = s.hartId := rfl
@[simp] theorem State.globalLoadLinked_x (a : Word) : (s.globalLoadLinked a).x = s.x := rfl
@[simp] theorem State.globalLoadLinked_f (a : Word) : (s.globalLoadLinked a).f = s.f := rfl
@[simp] theorem State.globalLoadLinked_pc (a : Word) : (s.globalLoadLinked a).pc = s.pc := rfl
@[simp] theorem State.globalLoadLinked_pcModified (a : Word) : (s.globalLoadLinked a).pcModified = s.pcModified := rfl
@[simp] theorem State.globalLoadLinked_fcsr (a : Word) : (s.globalLoadLinked a).fcsr = s.fcsr := rfl
@[simp] theorem State.globalLoadLinked_lm (a : Word) : (s.globalLoadLinked a).lm = s.lm := rfl
@[simp] theorem State.globalLoadLinked_gm (a : Word) : (s.globalLoadLinked a).gm = { s.gm with state := .rmw, addr := a } := rfl
@[simp] theorem State.globalLoadLinked_icount (a : Word) : (s.globalLoadLinked a).icount = s.icount := rfl
@[simp] theorem State.globalLoadLinked_run (a : Word) : (s.globalLoadLinked a).run = s.run := rfl
@[simp] theorem State.globalLoadLinked_resumeSkip (a : Word) : (s.globalLoadLinked a).resumeSkip = s.resumeSkip := rfl
@[simp] theorem State.globalLoadLinked_breakpoints (a : Word) : (s.globalLoadLinked a).breakpoints = s.breakpoints := rfl
@[simp] theorem State.globalLoadLinked_vecUnit (a : Word) : (s.globalLoadLinked a).vecUnit = s.vecUnit := rfl
@[simp] theorem State.globalLoadLinked_attached (a : Word) : (s.globalLoadLinked a).attached = s.attached := rfl
@[simp] theorem State.globalLoadLinked_harts (a : Word) : (s.globalLoadLinked a).harts = s.harts := rfl
@[simp] theorem State.globalLoadLinked_mem (a : Word) : (s.globalLoadLinked a).mem = s.mem := rfl
@[simp] theorem State.globalLoadLinked_allocated (a : Word) : (s.globalLoadLinked a).allocated = s.allocated := rfl
@[simp] theorem State.globalLoadLinked_cfg (a : Word) : (s.globalLoadLinked a).cfg = s.cfg := rfl
@[simp] theorem State.globalLoadLinked_schedule (a : Word) : (s.globalLoadLinked a).schedule = s.schedule := rfl

@[simp] theorem State.globalStore_hartId (a : Word) (n : Nat) : (s.globalStore a n).hartId = s.hartId := rfl
@[simp] theorem State.globalStore_x (a : Word) (n : Nat) : (s.globalStore a n).x = s.x := rfl
@[simp] theorem State.globalStore_f (a : Word) (n : Nat) : (s.globalStore a n).f = s.f := rfl
@[simp] theorem State.globalStore_pc (a : Word) (n : Nat) : (s.globalStore a n).pc = s.pc := rfl
@[simp] theorem State.globalStore_pcModified (a : Word) (n : Nat) : (s.globalStore a n).pcModified = s.pcModified := rfl
@[simp] theorem State.globalStore_fcsr (a : Word) (n : Nat) : (s.globalStore a n).fcsr = s.fcsr := rfl
@[simp] theorem State.globalStore_lm (a : Word) (n : Nat) : (s.globalStore a n).lm = s.lm := rfl
@[simp] theorem State.globalStore_gm (a : Word) (n : Nat) : (s.globalStore a n).gm = s.gm := rfl
@[simp] theorem State.globalStore_icount (a : Word) (n : Nat) : (s.globalStore a n).icount = s.icount := rfl
@[simp] theorem State.globalStore_run (a : Word) (n : Nat) : (s.globalStore a n).run = s.run := rfl
@[simp] theorem State.globalStore_resumeSkip (a : Word) (n : Nat) : (s.globalStore a n).resumeSkip = s.resumeSkip := rfl
@[simp] theorem State.globalStore_breakpoints (a : Word) (n : Nat) : (s.globalStore a n).breakpoints = s.breakpoints := rfl
@[simp] theorem State.globalStore_vecUnit (a : Word) (n : Nat) : (s.globalStore a n).vecUnit = s.vecUnit := rfl
@[simp] theorem State.globalStore_attached (a : Word) (n : Nat) : (s.globalStore a n).attached = s.attached := rfl
@[simp] theorem State.globalStore_harts (a : Word) (n : Nat) : (s.globalStore a n).harts = s.harts.map (Hart.afterStore s.cfg a n) := rfl
@[simp] theorem State.globalStore_mem (a : Word) (n : Nat) : (s.globalStore a n).mem = s.mem := rfl
@[simp] theorem State.globalStore_allocated (a : Word) (n : Nat) : (s.globalStore a n).allocated = s.allocated := rfl
@[simp] theorem State.globalStore_cfg (a : Word) (n : Nat) : (s.globalStore a n).cfg = s.cfg := rfl
@[simp] theorem State.globalStore_schedule (a : Word) (n : Nat) : (s.globalStore a n).schedule = s.schedule := rfl

@[simp] theorem State.notifyStore_hartId (a : Word) (n : Nat) : (s.notifyStore a n).hartId = s.hartId := rfl
@[simp] theorem State.notifyStore_x (a : Word) (n : Nat) : (s.notifyStore a n).x = s.x := rfl
@[simp] theorem State.notifyStore_f (a : Word) (n : Nat) : (s.notifyStore a n).f = s.f := rfl
@[simp] theorem State.notifyStore_pc (a : Word) (n : Nat) : (s.notifyStore a n).pc = s.pc := rfl
@[simp] theorem State.notifyStore_pcModified (a : Word) (n : Nat) : (s.notifyStore a n).pcModified = s.pcModified := rfl
@[simp] theorem State.notifyStore_fcsr (a : Word) (n : Nat) : (s.notifyStore a n).fcsr = s.fcsr := rfl
@[simp] theorem State.notifyStore_lm (a : Word) (n : Nat) : (s.notifyStore a n).lm = .open := rfl
@[simp] theorem State.notifyStore_gm (a : Word) (n : Nat) : (s.notifyStore a n).gm = s.gm := rfl
@[simp] theorem State.notifyStore_icount (a : Word) (n : Nat) : (s.notifyStore a n).icount = s.icount := rfl
@[simp] theorem State.notifyStore_run (a : Word) (n : Nat) : (s.notifyStore a n).run = s.run := rfl
@[simp] theorem State.notifyStore_resumeSkip (a : Word) (n : Nat) : (s.notifyStore a n).resumeSkip = s.resumeSkip := rfl
@[simp] theorem State.notifyStore_breakpoints (a : Word) (n : Nat) : (s.notifyStore a n).breakpoints = s.breakpoints := rfl
@[simp] theorem State.notifyStore_vecUnit (a : Word) (n : Nat) : (s.notifyStore a n).vecUnit = s.vecUnit := rfl
@[simp] theorem State.notifyStore_attached (a : Word) (n : Nat) : (s.notifyStore a n).attached = s.attached := rfl
@[simp] theorem State.notifyStore_harts (a : Word) (n : Nat) : (s.notifyStore a n).harts = s.harts.map (Hart.afterStore s.cfg a n) := rfl
@[simp] theorem State.notifyStore_mem (a : Word) (n : Nat) : (s.notifyStore a n).mem = s.mem := rfl
@[simp] theorem State.notifyStore_allocated (a : Word) (n : Nat) : (s.notifyStore a n).allocated = s.allocated := rfl
@[simp] theorem State.notifyStore_cfg (a : Word) (n : Nat) : (s.notifyStore a n).cfg = s.cfg := rfl
@[simp] theorem State.notifyStore_schedule (a : Word) (n : Nat) : (s.notifyStore a n).schedule = s.schedule := rfl

@[simp] theorem State.store_hartId (a : Word) (n : Nat) (v : Word) : (s.store a n v).hartId = s.hartId := rfl
@[simp] theorem State.store_x (a : Word) (n : Nat) (v : Word) : (s.store a n v).x = s.x := rfl
@[simp] theorem State.store_f (a : Word) (n : Nat) (v : Word) : (s.store a n v).f = s.f := rfl
@[simp] theorem State.store_pc (a : Word) (n : Nat) (v : Word) : (s.store a n v).pc = s.pc := rfl
@[simp] theorem State.store_pcModified (a : Word) (n : Nat) (v : Word) : (s.store a n v).pcModified = s.pcModified := rfl
@[simp] theorem State.store_fcsr (a : Word) (n : Nat) (v : Word) : (s.store a n v).fcsr = s.fcsr := rfl
@[simp] theorem State.store_lm (a : Word) (n : Nat) (v : Word) : (s.store a n v).lm = .open := rfl
@[simp] theorem State.store_gm (a : Word) (n : Nat) (v : Word) : (s.store a n v).gm = s.gm := rfl
@[simp] theorem State.store_icount (a : Word) (n : Nat) (v : Word) : (s.store a n v).icount = s.icount := rfl
@[simp] theorem State.store_run (a : Word) (n : Nat) (v : Word) : (s.store a n v).run = s.run := rfl
@[simp] theorem State.store_resumeSkip (a : Word) (n : Nat) (v : Word) : (s.store a n v).resumeSkip = s.resumeSkip := rfl
@[simp] theorem State.store_breakpoints (a : Word) (n : Nat) (v : Word) : (s.store a n v).breakpoints = s.breakpoints := rfl
@[simp] theorem State.store_vecUnit (a : Word) (n : Nat) (v : Word) : (s.store a n v).vecUnit = s.vecUnit := rfl
@[simp] theorem State.store_attached (a : Word) (n : Nat) (v : Word) : (s.store a n v).attached = s.attached := rfl
@[simp] theorem State.store_harts (a : Word) (n : Nat) (v : Word) : (s.store a n v).harts = s.harts.map (Hart.afterStore s.cfg a n) := rfl
@[simp] theorem State.store_mem (a : Word) (n : Nat) (v : Word) : (s.store a n v).mem = Memory.writeLE s.mem a n v := rfl
@[simp] theorem State.store_allocated (a : Word) (n : Nat) (v : Word) : (s.store a n v).allocated = s.allocated := rfl
@[simp] theorem State.store_cfg (a : Word) (n : Nat) (v : Word) : (s.store a n v).cfg = s.cfg := rfl
@[simp] theorem State.store_schedule (a : Word) (n : Nat) (v : Word) : (s.store a n v).schedule = s.schedule := rfl

@[simp] theorem State.resultS_hartId (rd : Reg) (r : BitVec 32 × Flags) : (s.resultS rd r).hartId = s.hartId := rfl
@[simp] theorem State.resultS_x (rd : Reg) (r : BitVec 32 × Flags) : (s.resultS rd r).x = s.x := rfl
@[simp] theorem State.resultS_f (rd : Reg) (r : BitVec 32 × Flags) : (s.resultS rd r).f = s.f.set rd.toNat (box32 r.1) rd.isLt := rfl
@[simp] theorem State.resultS_pc (rd : Reg) (r : BitVec 32 × Flags) : (s.resultS rd r).pc = s.pc := rfl
@[simp] theorem State.resultS_pcModified (rd : Reg) (r : BitVec 32 × Flags) : (s.resultS rd r).pcModified = s.pcModified := rfl
@[simp] theorem State.resultS_fcsr (rd : Reg) (r : BitVec 32 × Flags) : (s.resultS rd r).fcsr = s.fcsr ||| r.2.setWidth 8 := rfl
@[simp] theorem State.resultS_lm (rd : Reg) (r : BitVec 32 × Flags) : (s.resultS rd r).lm = s.lm := rfl
@[simp] theorem State.resultS_gm (rd : Reg) (r : BitVec 32 × Flags) : (s.resultS rd r).gm = s.gm := rfl
@[simp] theorem State.resultS_icount (rd : Reg) (r : BitVec 32 × Flags) : (s.resultS rd r).icount = s.icount := rfl
@[simp] theorem State.resultS_run (rd : Reg) (r : BitVec 32 × Flags) : (s.resultS rd r).run = s.run := rfl
@[simp] theorem State.resultS_resumeSkip (rd : Reg) (r : BitVec 32 × Flags) : (s.resultS rd r).resumeSkip = s.resumeSkip := rfl
@[simp] theorem State.resultS_breakpoints (rd : Reg) (r : BitVec 32 × Flags) : (s.resultS rd r).breakpoints = s.breakpoints := rfl
@[simp] theorem State.resultS_vecUnit (rd : Reg) (r : BitVec 32 × Flags) : (s.resultS rd r).vecUnit = s.vecUnit := rfl
@[simp] theorem State.resultS_attached (rd : Reg) (r : BitVec 32 × Flags) : (s.resultS rd r).attached = s.attached := rfl
@[simp] theorem State.resultS_harts (rd : Reg) (r : BitVec 32 × Flags) : (s.resultS rd r).harts = s.harts := rfl
@[simp] theorem State.resultS_mem (rd : Reg) (r : BitVec 32 × Flags) : (s.resultS rd r).mem = s.mem := rfl
@[simp] theorem State.resultS_allocated (rd : Reg) (r : BitVec 32 × Flags) : (s.resultS rd r).allocated = s.allocated := rfl
@[simp] theorem State.resultS_cfg (rd : Reg) (r : BitVec 32 × Flags) : (s.resultS rd r).cfg = s.cfg := rfl
@[simp] theorem State.resultS_schedule (rd : Reg) (r : BitVec 32 × Flags) : (s.resultS rd r).schedule = s.schedule := rfl

@[simp] theorem State.resultD_hartId (rd : Reg) (r : Word × Flags) : (s.resultD rd r).hartId = s.hartId := rfl
@[simp] theorem State.resultD_x (rd : Reg) (r : Word × Flags) : (s.resultD rd r).x = s.x := rfl
@[simp] theorem State.resultD_f (rd : Reg) (r : Word × Flags) : (s.resultD rd r).f = s.f.set rd.toNat r.1 rd.isLt := rfl
@[simp] theorem State.resultD_pc (rd : Reg) (r : Word × Flags) : (s.resultD rd r).pc = s.pc := rfl
@[simp] theorem State.resultD_pcModified (rd : Reg) (r : Word × Flags) : (s.resultD rd r).pcModified = s.pcModified := rfl
@[simp] theorem State.resultD_fcsr (rd : Reg) (r : Word × Flags) : (s.resultD rd r).fcsr = s.fcsr ||| r.2.setWidth 8 := rfl
@[simp] theorem State.resultD_lm (rd : Reg) (r : Word × Flags) : (s.resultD rd r).lm = s.lm := rfl
@[simp] theorem State.resultD_gm (rd : Reg) (r : Word × Flags) : (s.resultD rd r).gm = s.gm := rfl
@[simp] theorem State.resultD_icount (rd : Reg) (r : Word × Flags) : (s.resultD rd r).icount = s.icount := rfl
@[simp] theorem State.resultD_run (rd : Reg) (r : Word × Flags) : (s.resultD rd r).run = s.run := rfl
@[simp] theorem State.resultD_resumeSkip (rd : Reg) (r : Word × Flags) : (s.resultD rd r).resumeSkip = s.resumeSkip := rfl
@[simp] theorem State.resultD_breakpoints (rd : Reg) (r : Word × Flags) : (s.resultD rd r).breakpoints = s.breakpoints := rfl
@[simp] theorem State.resultD_vecUnit (rd : Reg) (r : Word × Flags) : (s.resultD rd r).vecUnit = s.vecUnit := rfl
@[simp] theorem State.resultD_attached (rd : Reg) (r : Word × Flags) : (s.resultD rd r).attached = s.attached := rfl
@[simp] theorem State.resultD_harts (rd : Reg) (r : Word × Flags) : (s.resultD rd r).harts = s.harts := rfl
@[simp] theorem State.resultD_mem (rd : Reg) (r : Word × Flags) : (s.resultD rd r).mem = s.mem := rfl
@[simp] theorem State.resultD_allocated (rd : Reg) (r : Word × Flags) : (s.resultD rd r).allocated = s.allocated := rfl
@[simp] theorem State.resultD_cfg (rd : Reg) (r : Word × Flags) : (s.resultD rd r).cfg = s.cfg := rfl
@[simp] theorem State.resultD_schedule (rd : Reg) (r : Word × Flags) : (s.resultD rd r).schedule = s.schedule := rfl

@[simp] theorem State.resultX_hartId (rd : Reg) (r : Word × Flags) : (s.resultX rd r).hartId = s.hartId := rfl
@[simp] theorem State.resultX_x (rd : Reg) (r : Word × Flags) : (s.resultX rd r).x = setX s.x rd r.1 := rfl
@[simp] theorem State.resultX_f (rd : Reg) (r : Word × Flags) : (s.resultX rd r).f = s.f := rfl
@[simp] theorem State.resultX_pc (rd : Reg) (r : Word × Flags) : (s.resultX rd r).pc = s.pc := rfl
@[simp] theorem State.resultX_pcModified (rd : Reg) (r : Word × Flags) : (s.resultX rd r).pcModified = s.pcModified := rfl
@[simp] theorem State.resultX_fcsr (rd : Reg) (r : Word × Flags) : (s.resultX rd r).fcsr = s.fcsr ||| r.2.setWidth 8 := rfl
@[simp] theorem State.resultX_lm (rd : Reg) (r : Word × Flags) : (s.resultX rd r).lm = s.lm := rfl
@[simp] theorem State.resultX_gm (rd : Reg) (r : Word × Flags) : (s.resultX rd r).gm = s.gm := rfl
@[simp] theorem State.resultX_icount (rd : Reg) (r : Word × Flags) : (s.resultX rd r).icount = s.icount := rfl
@[simp] theorem State.resultX_run (rd : Reg) (r : Word × Flags) : (s.resultX rd r).run = s.run := rfl
@[simp] theorem State.resultX_resumeSkip (rd : Reg) (r : Word × Flags) : (s.resultX rd r).resumeSkip = s.resumeSkip := rfl
@[simp] theorem State.resultX_breakpoints (rd : Reg) (r : Word × Flags) : (s.resultX rd r).breakpoints = s.breakpoints := rfl
@[simp] theorem State.resultX_vecUnit (rd : Reg) (r : Word × Flags) : (s.resultX rd r).vecUnit = s.vecUnit := rfl
@[simp] theorem State.resultX_attached (rd : Reg) (r : Word × Flags) : (s.resultX rd r).attached = s.attached := rfl
@[simp] theorem State.resultX_harts (rd : Reg) (r : Word × Flags) : (s.resultX rd r).harts = s.harts := rfl
@[simp] theorem State.resultX_mem (rd : Reg) (r : Word × Flags) : (s.resultX rd r).mem = s.mem := rfl
@[simp] theorem State.resultX_allocated (rd : Reg) (r : Word × Flags) : (s.resultX rd r).allocated = s.allocated := rfl
@[simp] theorem State.resultX_cfg (rd : Reg) (r : Word × Flags) : (s.resultX rd r).cfg = s.cfg := rfl
@[simp] theorem State.resultX_schedule (rd : Reg) (r : Word × Flags) : (s.resultX rd r).schedule = s.schedule := rfl

end Sys2Proof.Machine
end

