-- ==== Sys2Proof/Laws/Ops.lean ====
section
/-! SUPPORT. For each shared operation, one lemma that says what it can do; users cite these and do not unfold the operations. -/

namespace Sys2Proof.Machine

/-! ### Registers -/

theorem State.readX_zero (s : State) : s.readX 0 = 0 := rfl

theorem State.readX_writeX (s : State) (rd r : Reg) (v : Word) :
    (s.writeX rd v).readX r = if r = 0 then 0 else if r = rd then v else s.readX r := by
  unfold State.readX State.writeX setX
  split
  · rfl
  · split
    · simp_all
    · split
      · simp_all
      · have h' : rd.toNat ≠ r.toNat := fun e => ‹¬r = rd› (BitVec.eq_of_toNat_eq e.symm)
        exact Vector.getElem_set_ne rd.isLt _ h'

theorem State.readF_writeF (s : State) (rd r : Reg) (v : Word) :
    (s.writeF rd v).readF r = if r = rd then v else s.readF r := by
  unfold State.readF State.writeF
  by_cases h : r = rd
  · subst h
    simp
  · have h' : rd.toNat ≠ r.toNat := fun e => h (BitVec.eq_of_toNat_eq e.symm)
    simp [h, Vector.getElem_set_ne _ _ h']

theorem setReg_eq (rd : Reg) (v : Word) (s : State) : setReg rd v s = .next (s.writeX rd v) := rfl

/-! ### Accesses -/

theorem State.accessCheck_eq_none_iff (s : State) (atomic : Bool) (a : Word) (n : Nat) :
    s.accessCheck atomic a n = none ↔
      s.cfg.nullPageSize ≤ a.toNat ∧ ((atomic = true ∨ s.cfg.requireAlignment = true) → a.toNat % n = 0) := by
  unfold State.accessCheck
  split
  · simp; omega
  · split <;> simp_all

theorem State.accessCheck_eq_some (s : State) (atomic : Bool) (a : Word) (n : Nat) {c : Cause}
    (h : s.accessCheck atomic a n = some c) :
    (c = .nullPageAccess ∧ a.toNat < s.cfg.nullPageSize) ∨
      (c = .misalignedAccess ∧ s.cfg.nullPageSize ≤ a.toNat ∧ (atomic = true ∨ s.cfg.requireAlignment = true) ∧
        a.toNat % n ≠ 0) := by
  unfold State.accessCheck at h
  split at h
  · exact .inl ⟨(Option.some.inj h).symm, ‹_›⟩
  · split at h
    · refine .inr ⟨(Option.some.inj h).symm, by omega, ?_, ?_⟩ <;> simp_all
    · cases h

/-- `State.backs` is the proposition of the statements. -/
theorem State.backs_iff (s : State) (a : Word) : s.backs a = true ↔ Allocated s a := by
  simp [State.backs, Allocated]

theorem State.backed_iff (s : State) (a : Word) (n : Nat) : s.backed a n = true ↔ AllocatedAll s a n := by
  simp [State.backed, AllocatedAll, State.backs_iff]

/-- The checks pass, or the hart halts with one of two causes and nothing else changes. -/
theorem checked_cases (atomic : Bool) (a : Word) (n : Nat) (go : State → Result) (s : State) :
    (s.accessCheck atomic a n = none ∧ checked atomic a n go s = go s) ∨
      (∃ c, s.accessCheck atomic a n = some c ∧ c.fatal = true ∧ checked atomic a n go s = .next (s.halt c a)) := by
  unfold checked
  cases h : s.accessCheck atomic a n with
  | none => exact .inl ⟨rfl, rfl⟩
  | some c =>
    refine .inr ⟨c, rfl, ?_, rfl⟩
    rcases s.accessCheck_eq_some atomic a n h with ⟨rfl, -⟩ | ⟨rfl, -⟩ <;> rfl

theorem onBacked_cases (a : Word) (n : Nat) (effect : State → State) (s : State) :
    (s.backed a n = true ∧ onBacked a n effect s = .next (effect s)) ∨
      (s.backed a n = false ∧ onBacked a n effect s = .fault (.unallocated a)) := by
  unfold onBacked
  cases s.backed a n <;> simp

/-- An access runs its effect, or halts with one of two causes and changes nothing else, or is stuck on bytes outside the
allocated set. -/
theorem access_cases (atomic : Bool) (a : Word) (n : Nat) (effect : State → State) (s : State) :
    (s.accessCheck atomic a n = none ∧ s.backed a n = true ∧ access atomic a n effect s = .next (effect s)) ∨
      (s.accessCheck atomic a n = none ∧ s.backed a n = false ∧ access atomic a n effect s = .fault (.unallocated a)) ∨
      (∃ c, s.accessCheck atomic a n = some c ∧ c.fatal = true ∧ access atomic a n effect s = .next (s.halt c a)) := by
  unfold access
  rcases checked_cases atomic a n (onBacked a n effect) s with ⟨hc, e⟩ | h
  · rw [e]
    rcases onBacked_cases a n effect s with ⟨hb, e⟩ | ⟨hb, e⟩
    · exact .inl ⟨hc, hb, e⟩
    · exact .inr (.inl ⟨hc, hb, e⟩)
  · exact .inr (.inr h)

theorem access_of_none {atomic : Bool} {a : Word} {n : Nat} {s : State} (effect : State → State)
    (h : s.accessCheck atomic a n = none) (hb : s.backed a n = true) : access atomic a n effect s = .next (effect s) := by
  simp only [access, checked, onBacked, h, hb, ite_true]

/-! ### Acts of the environment -/

/-- An act of the environment is done on a halted hart of the system; else nothing happens. -/
theorem State.whileHalted_cases (act : State → State) (s : State) :
    (s.run ≠ .running ∧ s.attached = true ∧ State.whileHalted act s = act s) ∨
      ((s.run = .running ∨ s.attached = false) ∧ State.whileHalted act s = s) := by
  unfold State.whileHalted
  cases h : s.run with
  | running => exact .inr ⟨.inl rfl, rfl⟩
  | halted c info => cases ha : s.attached <;> simp

/-! ### Rounding modes and CSRs -/

/-- An instruction with a rounding-mode field runs, or halts as unimplemented and changes nothing else. -/
theorem withRm_cases (i : Instr) (rm : BitVec 3) (effect : RoundingMode → State) (s : State) :
    (∃ r, effectiveRm s.fcsr rm = some r ∧ withRm i rm effect s = .next (effect r)) ∨
      (effectiveRm s.fcsr rm = none ∧ withRm i rm effect s = .next (s.halt .unimplementedInstruction (zext (encode i)))) := by
  unfold withRm
  cases effectiveRm s.fcsr rm with
  | some r => exact .inl ⟨r, rfl, rfl⟩
  | none => exact .inr ⟨rfl, rfl⟩

/-- A CSR instruction writes `x[rd]` and, with a value to write, the CSR; or it halts as unimplemented. -/
theorem csrOp_cases (i : Instr) (rd : Reg) (csr : BitVec 12) (update : Word → Option Word) (s : State) :
    (∃ t, csrRead s.fcsr csr = some t ∧
        csrOp i rd csr update s = .next (State.writeX { s with
          fcsr := match update t with
            | none => s.fcsr
            | some v => csrWrite s.fcsr csr v } rd t)) ∨
      (csrRead s.fcsr csr = none ∧
        csrOp i rd csr update s = .next (s.halt .unimplementedInstruction (zext (encode i)))) := by
  unfold csrOp
  cases csrRead s.fcsr csr with
  | none => exact .inr ⟨rfl, rfl⟩
  | some t =>
    refine .inl ⟨t, rfl, ?_⟩
    cases h : update t <;> simp [h]

/-! ### Stores and monitors -/

/-- What the Global Monitor does at a store-conditional: nothing, a forced failure, or a success. -/
theorem State.globalStoreConditional_cases (s : State) (a : Word) :
    (¬(s.gm.state = .rmw ∧ s.gm.addr = a) ∧ s.globalOk a = false ∧ s.globalStoreConditional a = s) ∨
      (s.gm.state = .rmw ∧ s.gm.addr = a ∧ s.cfg.scForcedFailPeriod ≤ s.gm.failCount ∧ s.globalOk a = false ∧
        s.globalStoreConditional a = { s with gm := { s.gm with state := .open, failCount := 0 } }) ∨
      (s.gm.state = .rmw ∧ s.gm.addr = a ∧ s.gm.failCount < s.cfg.scForcedFailPeriod ∧ s.globalOk a = true ∧
        s.globalStoreConditional a =
          State.globalStore { s with gm := { s.gm with state := .open, failCount := s.gm.failCount + 1 } } a 1) := by
  unfold State.globalOk State.globalStoreConditional
  by_cases h : s.gm.state = .rmw ∧ s.gm.addr = a
  · obtain ⟨h1, h2⟩ := h
    by_cases h3 : s.cfg.scForcedFailPeriod ≤ s.gm.failCount
    · exact .inr (.inl ⟨h1, h2, h3, by simp; omega, by simp [h1, h2, h3]⟩)
    · exact .inr (.inr ⟨h1, h2, by omega, by simp [h1, h2]; omega, by simp [h1, h2, h3]⟩)
  · refine .inl ⟨h, ?_, by simp [h]⟩
    simp only [Bool.and_eq_false_imp, Bool.and_eq_true, decide_eq_true_eq, beq_iff_eq]
    exact fun hh => (h hh).elim

/-! ### The step -/

/-- A taken hart is one of the list, with the rest in order. -/
theorem takeHart_perm (id : Nat) (l : List Hart) (h : Hart) (rest : List Hart) (e : takeHart id l = some (h, rest)) :
    h.hartId = id ∧ l.Perm (h :: rest) := by
  induction l generalizing rest with
  | nil => cases e
  | cons g l ih =>
    unfold takeHart at e
    split at e
    · cases e
      exact ⟨‹_›, .refl _⟩
    · split at e
      · rename_i h' others e'
        cases e
        obtain ⟨hid, hp⟩ := ih _ e'
        exact ⟨hid, (hp.cons g).trans (.swap h g others)⟩
      · cases e

/-- A swap permutes the harts and changes nothing else. -/
theorem State.swapHart_spec (s : State) (id : Nat) :
    (s.swapHart id = s ∨ ∃ h rest, s.harts.Perm (h :: rest) ∧ h.hartId = id ∧
      s.swapHart id = { s with toHart := h, attached := true, harts := s.front ++ rest }) := by
  unfold State.swapHart
  split
  · exact .inl rfl
  · split
    · rename_i h rest e
      obtain ⟨hid, hp⟩ := takeHart_perm _ _ _ _ e
      exact .inr ⟨h, rest, hp, hid, rfl⟩
    · exact .inl rfl

/-- A swap only reorders the harts. -/
theorem State.swapHart_allHarts (s : State) (id : Nat) : (s.swapHart id).allHarts.Perm s.allHarts := by
  rcases s.swapHart_spec id with e | ⟨h, rest, hp, -, e⟩ <;> rw [e]
  show (h :: (s.front ++ rest)).Perm (s.front ++ s.harts)
  exact (List.perm_middle.symm).trans (hp.symm.append_left _)

/-- All that a hart's step can be. -/
theorem State.stepHart_cases (execute : Instr → State → Result) (s : State) :
    ((s.run ≠ .running ∨ s.attached = false) ∧ s.stepHart execute = .next s) ∨
      (s.run = .running ∧ s.attached = true ∧
        ((∃ c, State.stopCause { s with resumeSkip := false } s.resumeSkip = some c ∧
            s.stepHart execute = .next (State.stopAt { s with resumeSkip := false } c)) ∨
          (State.stopCause { s with resumeSkip := false } s.resumeSkip = none ∧
            ∃ c, State.fetch { s with resumeSkip := false } = .error c ∧
              s.stepHart execute = .next (State.halt { s with resumeSkip := false } c s.pc)) ∨
          (State.stopCause { s with resumeSkip := false } s.resumeSkip = none ∧
            ∃ w, State.fetch { s with resumeSkip := false } = .ok w ∧
              ((s.backed s.pc (fetchedLength w) = true ∧
                  s.stepHart execute = State.runWord execute { s with resumeSkip := false } w) ∨
                (s.backed s.pc (fetchedLength w) = false ∧ s.stepHart execute = .fault (.unallocated s.pc)))))) := by
  unfold State.stepHart
  split
  · exact .inl ⟨.inl (by simp_all), rfl⟩
  · exact .inl ⟨.inr ‹_›, rfl⟩
  · refine .inr ⟨‹_›, ‹_›, ?_⟩
    dsimp only
    split
    · exact .inl ⟨_, ‹_›, rfl⟩
    · refine .inr ?_
      split
      · exact .inl ⟨‹_›, _, ‹_›, rfl⟩
      · rename_i w hw
        refine .inr ⟨‹_›, w, hw, ?_⟩
        cases hb : s.backed s.pc (fetchedLength w)
        · exact .inr ⟨rfl, if_neg (by rw [show State.backed { s with resumeSkip := false } s.pc (fetchedLength w) = false from hb]; simp)⟩
        · exact .inl ⟨rfl, if_pos hb⟩

/-- One access of the vector unit: done, or a failed check, or bytes outside the allocated set. -/
theorem State.vectorAccessAt_cases (s : State) (a : Word) (n : Nat) (effect : State) :
    (s.accessCheck false a n = none ∧ s.backed a n = true ∧ s.vectorAccessAt a n effect = .ok effect) ∨
      (s.accessCheck false a n = none ∧ s.backed a n = false ∧ s.vectorAccessAt a n effect = .error (.unallocated a)) ∨
      (∃ c, s.accessCheck false a n = some c ∧ s.vectorAccessAt a n effect = .error (.halt c a)) := by
  unfold State.vectorAccessAt
  cases s.accessCheck false a n <;> cases s.backed a n <;> simp

/-- All that running the fetched bits can be. -/
theorem State.runWord_cases (execute : Instr → State → Result) (s : State) (w : BitVec 32) :
    (∃ i, decodeInst w = .ok i ∧ s.runWord execute w = retireResult i.len (execute i { s with pcModified := false })) ∨
      (decodeInst w = .error .vectorForm ∧
        s.runWord execute w = retireResult 4 (vectorWord w { s with pcModified := false })) ∨
      (∃ e, decodeInst w = .error e ∧ e ≠ .vectorForm ∧
        s.runWord execute w = .next (State.halt { s with pcModified := false } .unimplementedInstruction (zext w))) := by
  unfold State.runWord
  cases h : decodeInst w with
  | ok i => exact .inl ⟨i, rfl, rfl⟩
  | error e =>
    cases e with
    | vectorForm => exact .inr (.inl ⟨rfl, rfl⟩)
    | truncated => exact .inr (.inr ⟨_, rfl, by decide, rfl⟩)
    | unclassifiable => exact .inr (.inr ⟨_, rfl, by decide, rfl⟩)

/-- All that the end of an instruction can be. -/
theorem State.retire_cases (s : State) (len : Nat) :
    (s.run = .running ∧ s.retire len = { s with
        pc := if s.pcModified then s.pc else s.pc + BitVec.ofNat 64 len
        pcModified := false
        icount := s.icount + 1 }) ∨
      (∃ c info, s.run = .halted c info ∧ c.environment = true ∧ s.retire len = { s with icount := s.icount + 1 }) ∨
      (∃ c info, s.run = .halted c info ∧ c.environment = false ∧ s.retire len = s) := by
  unfold State.retire
  split
  · exact .inl ⟨‹_›, rfl⟩
  · rename_i c info h
    cases hc : c.environment with
    | true => exact .inr (.inl ⟨c, info, h, hc, rfl⟩)
    | false => exact .inr (.inr ⟨c, info, h, hc, rfl⟩)

end Sys2Proof.Machine
end

