-- ==== Sys2Proof/Laws/PerInstr.lean ====
section
/-! SUPPORT. One lemma per constructor of `Instr`: the word the encoder gives belongs to the instruction's row of
spec/opcode_table.json. -/

namespace Sys2Proof.Laws.TableRow

/-- The encoding of `i` has the fixed bits of its row (spec/30_encoding.md rule R149). -/
def Statement (i : Instr) : Prop := encode i &&& i.row.mask = i.row.pattern

/-! ### The fixed bits of the formats, for each mask of the table -/

theorem encU_and_0000007F (imm20 : BitVec 20) (rd : Reg) (opcode : BitVec 7) :
    encU imm20 rd opcode &&& 0x0000007F#32 = encU 0#20 0#5 opcode := by
  apply BitVec.eq_of_getLsbD_eq
  intro i hi
  interval_cases i <;> simp only [encU, BitVec.getLsbD_and, BitVec.getLsbD_append] <;> simp

theorem encI_and_0000707F (imm : BitVec 12) (rs1 : Reg) (funct3 : BitVec 3) (rd : Reg) (opcode : BitVec 7) :
    encI imm rs1 funct3 rd opcode &&& 0x0000707F#32 = encI 0#12 0#5 funct3 0#5 opcode := by
  apply BitVec.eq_of_getLsbD_eq
  intro i hi
  interval_cases i <;> simp only [encI, BitVec.getLsbD_and, BitVec.getLsbD_append] <;> simp

theorem encShift6_and_FC00707F (funct6 : BitVec 6) (shamt : BitVec 6) (rs1 : Reg) (funct3 : BitVec 3) (rd : Reg) (opcode : BitVec 7) :
    encShift6 funct6 shamt rs1 funct3 rd opcode &&& 0xFC00707F#32 = encShift6 funct6 0#6 0#5 funct3 0#5 opcode := by
  apply BitVec.eq_of_getLsbD_eq
  intro i hi
  interval_cases i <;> simp only [encShift6, BitVec.getLsbD_and, BitVec.getLsbD_append] <;> simp

theorem encR_and_FE00707F (funct7 : BitVec 7) (rs2 : Reg) (rs1 : Reg) (funct3 : BitVec 3) (rd : Reg) (opcode : BitVec 7) :
    encR funct7 rs2 rs1 funct3 rd opcode &&& 0xFE00707F#32 = encR funct7 0#5 0#5 funct3 0#5 opcode := by
  apply BitVec.eq_of_getLsbD_eq
  intro i hi
  interval_cases i <;> simp only [encR, BitVec.getLsbD_and, BitVec.getLsbD_append] <;> simp

theorem encJ_and_0000007F (imm : BitVec 21) (rd : Reg) (opcode : BitVec 7) :
    encJ imm rd opcode &&& 0x0000007F#32 = encJ 0#21 0#5 opcode := by
  apply BitVec.eq_of_getLsbD_eq
  intro i hi
  interval_cases i <;> simp only [encJ, BitVec.getLsbD_and, BitVec.getLsbD_append] <;> simp

theorem encB_and_0000707F (imm : BitVec 13) (rs2 : Reg) (rs1 : Reg) (funct3 : BitVec 3) (opcode : BitVec 7) :
    encB imm rs2 rs1 funct3 opcode &&& 0x0000707F#32 = encB 0#13 0#5 0#5 funct3 opcode := by
  apply BitVec.eq_of_getLsbD_eq
  intro i hi
  interval_cases i <;> simp only [encB, BitVec.getLsbD_and, BitVec.getLsbD_append] <;> simp

theorem encS_and_0000707F (imm : BitVec 12) (rs2 : Reg) (rs1 : Reg) (funct3 : BitVec 3) (opcode : BitVec 7) :
    encS imm rs2 rs1 funct3 opcode &&& 0x0000707F#32 = encS 0#12 0#5 0#5 funct3 opcode := by
  apply BitVec.eq_of_getLsbD_eq
  intro i hi
  interval_cases i <;> simp only [encS, BitVec.getLsbD_and, BitVec.getLsbD_append] <;> simp

theorem encI_and_FFFFFFFF (imm : BitVec 12) (rs1 : Reg) (funct3 : BitVec 3) (rd : Reg) (opcode : BitVec 7) :
    encI imm rs1 funct3 rd opcode &&& 0xFFFFFFFF#32 = encI imm rs1 funct3 rd opcode := by
  apply BitVec.eq_of_getLsbD_eq
  intro i hi
  interval_cases i <;> simp only [encI, BitVec.getLsbD_and, BitVec.getLsbD_append] <;> simp

theorem encAmo_and_F9F0707F (funct5 : BitVec 5) (aq : BitVec 1) (rl : BitVec 1) (rs2 : Reg) (rs1 : Reg) (funct3 : BitVec 3) (rd : Reg) :
    encAmo funct5 aq rl rs2 rs1 funct3 rd &&& 0xF9F0707F#32 = encAmo funct5 0#1 0#1 rs2 0#5 funct3 0#5 := by
  apply BitVec.eq_of_getLsbD_eq
  intro i hi
  interval_cases i <;> simp only [encAmo, BitVec.getLsbD_and, BitVec.getLsbD_append] <;> simp

theorem encAmo_and_F800707F (funct5 : BitVec 5) (aq : BitVec 1) (rl : BitVec 1) (rs2 : Reg) (rs1 : Reg) (funct3 : BitVec 3) (rd : Reg) :
    encAmo funct5 aq rl rs2 rs1 funct3 rd &&& 0xF800707F#32 = encAmo funct5 0#1 0#1 0#5 0#5 funct3 0#5 := by
  apply BitVec.eq_of_getLsbD_eq
  intro i hi
  interval_cases i <;> simp only [encAmo, BitVec.getLsbD_and, BitVec.getLsbD_append] <;> simp

theorem encR4_and_0600007F (rs3 : Reg) (fmt : BitVec 2) (rs2 : Reg) (rs1 : Reg) (rm : BitVec 3) (rd : Reg) (opcode : BitVec 7) :
    encR4 rs3 fmt rs2 rs1 rm rd opcode &&& 0x0600007F#32 = encR4 0#5 fmt 0#5 0#5 0#3 0#5 opcode := by
  apply BitVec.eq_of_getLsbD_eq
  intro i hi
  interval_cases i <;> simp only [encR4, BitVec.getLsbD_and, BitVec.getLsbD_append] <;> simp

theorem encR_and_FE00007F (funct7 : BitVec 7) (rs2 : Reg) (rs1 : Reg) (funct3 : BitVec 3) (rd : Reg) (opcode : BitVec 7) :
    encR funct7 rs2 rs1 funct3 rd opcode &&& 0xFE00007F#32 = encR funct7 0#5 0#5 0#3 0#5 opcode := by
  apply BitVec.eq_of_getLsbD_eq
  intro i hi
  interval_cases i <;> simp only [encR, BitVec.getLsbD_and, BitVec.getLsbD_append] <;> simp

theorem encR_and_FFF0007F (funct7 : BitVec 7) (rs2 : Reg) (rs1 : Reg) (funct3 : BitVec 3) (rd : Reg) (opcode : BitVec 7) :
    encR funct7 rs2 rs1 funct3 rd opcode &&& 0xFFF0007F#32 = encR funct7 rs2 0#5 0#3 0#5 opcode := by
  apply BitVec.eq_of_getLsbD_eq
  intro i hi
  interval_cases i <;> simp only [encR, BitVec.getLsbD_and, BitVec.getLsbD_append] <;> simp

theorem encR_and_FFF0707F (funct7 : BitVec 7) (rs2 : Reg) (rs1 : Reg) (funct3 : BitVec 3) (rd : Reg) (opcode : BitVec 7) :
    encR funct7 rs2 rs1 funct3 rd opcode &&& 0xFFF0707F#32 = encR funct7 rs2 0#5 funct3 0#5 opcode := by
  apply BitVec.eq_of_getLsbD_eq
  intro i hi
  interval_cases i <;> simp only [encR, BitVec.getLsbD_and, BitVec.getLsbD_append] <;> simp

theorem encCiw_and_0000E003 (nzuimm : BitVec 10) (rd : CReg) :
    (encCiw nzuimm rd).setWidth 32 &&& 0x0000E003#32 = (encCiw 0#10 0#3).setWidth 32 := by
  apply BitVec.eq_of_getLsbD_eq
  intro i hi
  interval_cases i <;> simp only [encCiw, BitVec.getLsbD_and, BitVec.getLsbD_append, BitVec.getLsbD_setWidth] <;> simp

theorem encClD_and_0000E003 (funct3 : BitVec 3) (uimm : BitVec 8) (rs1 : CReg) (r : CReg) :
    (encClD funct3 uimm rs1 r).setWidth 32 &&& 0x0000E003#32 = (encClD funct3 0#8 0#3 0#3).setWidth 32 := by
  apply BitVec.eq_of_getLsbD_eq
  intro i hi
  interval_cases i <;> simp only [encClD, BitVec.getLsbD_and, BitVec.getLsbD_append, BitVec.getLsbD_setWidth] <;> simp

theorem encClW_and_0000E003 (funct3 : BitVec 3) (uimm : BitVec 7) (rs1 : CReg) (r : CReg) :
    (encClW funct3 uimm rs1 r).setWidth 32 &&& 0x0000E003#32 = (encClW funct3 0#7 0#3 0#3).setWidth 32 := by
  apply BitVec.eq_of_getLsbD_eq
  intro i hi
  interval_cases i <;> simp only [encClW, BitVec.getLsbD_and, BitVec.getLsbD_append, BitVec.getLsbD_setWidth] <;> simp

theorem encCi_and_0000EF83 (funct3 : BitVec 3) (imm : BitVec 6) (rd : Reg) (op : BitVec 2) :
    (encCi funct3 imm rd op).setWidth 32 &&& 0x0000EF83#32 = (encCi funct3 0#6 rd op).setWidth 32 := by
  apply BitVec.eq_of_getLsbD_eq
  intro i hi
  interval_cases i <;> simp only [encCi, BitVec.getLsbD_and, BitVec.getLsbD_append, BitVec.getLsbD_setWidth] <;> simp

theorem encCi_and_0000E003 (funct3 : BitVec 3) (imm : BitVec 6) (rd : Reg) (op : BitVec 2) :
    (encCi funct3 imm rd op).setWidth 32 &&& 0x0000E003#32 = (encCi funct3 0#6 0#5 op).setWidth 32 := by
  apply BitVec.eq_of_getLsbD_eq
  intro i hi
  interval_cases i <;> simp only [encCi, BitVec.getLsbD_and, BitVec.getLsbD_append, BitVec.getLsbD_setWidth] <;> simp

theorem encCi16sp_and_0000EF83 (nzimm : BitVec 10) :
    (encCi16sp nzimm).setWidth 32 &&& 0x0000EF83#32 = (encCi16sp 0#10).setWidth 32 := by
  apply BitVec.eq_of_getLsbD_eq
  intro i hi
  interval_cases i <;> simp only [encCi16sp, BitVec.getLsbD_and, BitVec.getLsbD_append, BitVec.getLsbD_setWidth] <;> simp

theorem encCbImm_and_0000EC03 (funct2 : BitVec 2) (imm : BitVec 6) (rd : CReg) :
    (encCbImm funct2 imm rd).setWidth 32 &&& 0x0000EC03#32 = (encCbImm funct2 0#6 0#3).setWidth 32 := by
  apply BitVec.eq_of_getLsbD_eq
  intro i hi
  interval_cases i <;> simp only [encCbImm, BitVec.getLsbD_and, BitVec.getLsbD_append, BitVec.getLsbD_setWidth] <;> simp

theorem encCa_and_0000FC63 (funct6 : BitVec 6) (funct2 : BitVec 2) (rs2 : CReg) (rd : CReg) :
    (encCa funct6 funct2 rs2 rd).setWidth 32 &&& 0x0000FC63#32 = (encCa funct6 funct2 0#3 0#3).setWidth 32 := by
  apply BitVec.eq_of_getLsbD_eq
  intro i hi
  interval_cases i <;> simp only [encCa, BitVec.getLsbD_and, BitVec.getLsbD_append, BitVec.getLsbD_setWidth] <;> simp

theorem encCj_and_0000E003 (off : BitVec 12) :
    (encCj off).setWidth 32 &&& 0x0000E003#32 = (encCj 0#12).setWidth 32 := by
  apply BitVec.eq_of_getLsbD_eq
  intro i hi
  interval_cases i <;> simp only [encCj, BitVec.getLsbD_and, BitVec.getLsbD_append, BitVec.getLsbD_setWidth] <;> simp

theorem encCb_and_0000E003 (funct3 : BitVec 3) (off : BitVec 9) (rs1 : CReg) :
    (encCb funct3 off rs1).setWidth 32 &&& 0x0000E003#32 = (encCb funct3 0#9 0#3).setWidth 32 := by
  apply BitVec.eq_of_getLsbD_eq
  intro i hi
  interval_cases i <;> simp only [encCb, BitVec.getLsbD_and, BitVec.getLsbD_append, BitVec.getLsbD_setWidth] <;> simp

theorem encCiDsp_and_0000E003 (funct3 : BitVec 3) (uimm : BitVec 9) (rd : Reg) :
    (encCiDsp funct3 uimm rd).setWidth 32 &&& 0x0000E003#32 = (encCiDsp funct3 0#9 0#5).setWidth 32 := by
  apply BitVec.eq_of_getLsbD_eq
  intro i hi
  interval_cases i <;> simp only [encCiDsp, BitVec.getLsbD_and, BitVec.getLsbD_append, BitVec.getLsbD_setWidth] <;> simp

theorem encCiWsp_and_0000E003 (funct3 : BitVec 3) (uimm : BitVec 8) (rd : Reg) :
    (encCiWsp funct3 uimm rd).setWidth 32 &&& 0x0000E003#32 = (encCiWsp funct3 0#8 0#5).setWidth 32 := by
  apply BitVec.eq_of_getLsbD_eq
  intro i hi
  interval_cases i <;> simp only [encCiWsp, BitVec.getLsbD_and, BitVec.getLsbD_append, BitVec.getLsbD_setWidth] <;> simp

theorem encCr_and_0000F07F (funct4 : BitVec 4) (rd : Reg) (rs2 : Reg) :
    (encCr funct4 rd rs2).setWidth 32 &&& 0x0000F07F#32 = (encCr funct4 0#5 rs2).setWidth 32 := by
  apply BitVec.eq_of_getLsbD_eq
  intro i hi
  interval_cases i <;> simp only [encCr, BitVec.getLsbD_and, BitVec.getLsbD_append, BitVec.getLsbD_setWidth] <;> simp

theorem encCr_and_0000F003 (funct4 : BitVec 4) (rd : Reg) (rs2 : Reg) :
    (encCr funct4 rd rs2).setWidth 32 &&& 0x0000F003#32 = (encCr funct4 0#5 0#5).setWidth 32 := by
  apply BitVec.eq_of_getLsbD_eq
  intro i hi
  interval_cases i <;> simp only [encCr, BitVec.getLsbD_and, BitVec.getLsbD_append, BitVec.getLsbD_setWidth] <;> simp

theorem encCr_and_0000FFFF (funct4 : BitVec 4) (rd : Reg) (rs2 : Reg) :
    (encCr funct4 rd rs2).setWidth 32 &&& 0x0000FFFF#32 = (encCr funct4 rd rs2).setWidth 32 := by
  apply BitVec.eq_of_getLsbD_eq
  intro i hi
  interval_cases i <;> simp only [encCr, BitVec.getLsbD_and, BitVec.getLsbD_append, BitVec.getLsbD_setWidth] <;> simp

theorem encCssD_and_0000E003 (funct3 : BitVec 3) (uimm : BitVec 9) (rs2 : Reg) :
    (encCssD funct3 uimm rs2).setWidth 32 &&& 0x0000E003#32 = (encCssD funct3 0#9 0#5).setWidth 32 := by
  apply BitVec.eq_of_getLsbD_eq
  intro i hi
  interval_cases i <;> simp only [encCssD, BitVec.getLsbD_and, BitVec.getLsbD_append, BitVec.getLsbD_setWidth] <;> simp

theorem encCssW_and_0000E003 (funct3 : BitVec 3) (uimm : BitVec 8) (rs2 : Reg) :
    (encCssW funct3 uimm rs2).setWidth 32 &&& 0x0000E003#32 = (encCssW funct3 0#8 0#5).setWidth 32 := by
  apply BitVec.eq_of_getLsbD_eq
  intro i hi
  interval_cases i <;> simp only [encCssW, BitVec.getLsbD_and, BitVec.getLsbD_append, BitVec.getLsbD_setWidth] <;> simp

/-! ### The lemmas -/

theorem lui (rd : Reg) (imm20 : BitVec 20) : Statement (.lui rd imm20) := (encU_and_0000007F _ _ _).trans rfl
theorem auipc (rd : Reg) (imm20 : BitVec 20) : Statement (.auipc rd imm20) := (encU_and_0000007F _ _ _).trans rfl
theorem addi (rd rs1 : Reg) (imm : BitVec 12) : Statement (.addi rd rs1 imm) := (encI_and_0000707F _ _ _ _ _).trans rfl
theorem slti (rd rs1 : Reg) (imm : BitVec 12) : Statement (.slti rd rs1 imm) := (encI_and_0000707F _ _ _ _ _).trans rfl
theorem sltiu (rd rs1 : Reg) (imm : BitVec 12) : Statement (.sltiu rd rs1 imm) := (encI_and_0000707F _ _ _ _ _).trans rfl
theorem xori (rd rs1 : Reg) (imm : BitVec 12) : Statement (.xori rd rs1 imm) := (encI_and_0000707F _ _ _ _ _).trans rfl
theorem ori (rd rs1 : Reg) (imm : BitVec 12) : Statement (.ori rd rs1 imm) := (encI_and_0000707F _ _ _ _ _).trans rfl
theorem andi (rd rs1 : Reg) (imm : BitVec 12) : Statement (.andi rd rs1 imm) := (encI_and_0000707F _ _ _ _ _).trans rfl
theorem slli (rd rs1 : Reg) (shamt : BitVec 6) : Statement (.slli rd rs1 shamt) := (encShift6_and_FC00707F _ _ _ _ _ _).trans rfl
theorem srli (rd rs1 : Reg) (shamt : BitVec 6) : Statement (.srli rd rs1 shamt) := (encShift6_and_FC00707F _ _ _ _ _ _).trans rfl
theorem srai (rd rs1 : Reg) (shamt : BitVec 6) : Statement (.srai rd rs1 shamt) := (encShift6_and_FC00707F _ _ _ _ _ _).trans rfl
theorem add (rd rs1 rs2 : Reg) : Statement (.add rd rs1 rs2) := (encR_and_FE00707F _ _ _ _ _ _).trans rfl
theorem sub (rd rs1 rs2 : Reg) : Statement (.sub rd rs1 rs2) := (encR_and_FE00707F _ _ _ _ _ _).trans rfl
theorem sll (rd rs1 rs2 : Reg) : Statement (.sll rd rs1 rs2) := (encR_and_FE00707F _ _ _ _ _ _).trans rfl
theorem slt (rd rs1 rs2 : Reg) : Statement (.slt rd rs1 rs2) := (encR_and_FE00707F _ _ _ _ _ _).trans rfl
theorem sltu (rd rs1 rs2 : Reg) : Statement (.sltu rd rs1 rs2) := (encR_and_FE00707F _ _ _ _ _ _).trans rfl
theorem xor (rd rs1 rs2 : Reg) : Statement (.xor rd rs1 rs2) := (encR_and_FE00707F _ _ _ _ _ _).trans rfl
theorem srl (rd rs1 rs2 : Reg) : Statement (.srl rd rs1 rs2) := (encR_and_FE00707F _ _ _ _ _ _).trans rfl
theorem sra (rd rs1 rs2 : Reg) : Statement (.sra rd rs1 rs2) := (encR_and_FE00707F _ _ _ _ _ _).trans rfl
theorem or (rd rs1 rs2 : Reg) : Statement (.or rd rs1 rs2) := (encR_and_FE00707F _ _ _ _ _ _).trans rfl
theorem and (rd rs1 rs2 : Reg) : Statement (.and rd rs1 rs2) := (encR_and_FE00707F _ _ _ _ _ _).trans rfl
theorem addiw (rd rs1 : Reg) (imm : BitVec 12) : Statement (.addiw rd rs1 imm) := (encI_and_0000707F _ _ _ _ _).trans rfl
theorem slliw (rd rs1 : Reg) (shamt : BitVec 5) : Statement (.slliw rd rs1 shamt) := (encR_and_FE00707F _ _ _ _ _ _).trans rfl
theorem srliw (rd rs1 : Reg) (shamt : BitVec 5) : Statement (.srliw rd rs1 shamt) := (encR_and_FE00707F _ _ _ _ _ _).trans rfl
theorem sraiw (rd rs1 : Reg) (shamt : BitVec 5) : Statement (.sraiw rd rs1 shamt) := (encR_and_FE00707F _ _ _ _ _ _).trans rfl
theorem addw (rd rs1 rs2 : Reg) : Statement (.addw rd rs1 rs2) := (encR_and_FE00707F _ _ _ _ _ _).trans rfl
theorem subw (rd rs1 rs2 : Reg) : Statement (.subw rd rs1 rs2) := (encR_and_FE00707F _ _ _ _ _ _).trans rfl
theorem sllw (rd rs1 rs2 : Reg) : Statement (.sllw rd rs1 rs2) := (encR_and_FE00707F _ _ _ _ _ _).trans rfl
theorem srlw (rd rs1 rs2 : Reg) : Statement (.srlw rd rs1 rs2) := (encR_and_FE00707F _ _ _ _ _ _).trans rfl
theorem sraw (rd rs1 rs2 : Reg) : Statement (.sraw rd rs1 rs2) := (encR_and_FE00707F _ _ _ _ _ _).trans rfl
theorem mul (rd rs1 rs2 : Reg) : Statement (.mul rd rs1 rs2) := (encR_and_FE00707F _ _ _ _ _ _).trans rfl
theorem mulh (rd rs1 rs2 : Reg) : Statement (.mulh rd rs1 rs2) := (encR_and_FE00707F _ _ _ _ _ _).trans rfl
theorem mulhsu (rd rs1 rs2 : Reg) : Statement (.mulhsu rd rs1 rs2) := (encR_and_FE00707F _ _ _ _ _ _).trans rfl
theorem mulhu (rd rs1 rs2 : Reg) : Statement (.mulhu rd rs1 rs2) := (encR_and_FE00707F _ _ _ _ _ _).trans rfl
theorem div (rd rs1 rs2 : Reg) : Statement (.div rd rs1 rs2) := (encR_and_FE00707F _ _ _ _ _ _).trans rfl
theorem divu (rd rs1 rs2 : Reg) : Statement (.divu rd rs1 rs2) := (encR_and_FE00707F _ _ _ _ _ _).trans rfl
theorem rem (rd rs1 rs2 : Reg) : Statement (.rem rd rs1 rs2) := (encR_and_FE00707F _ _ _ _ _ _).trans rfl
theorem remu (rd rs1 rs2 : Reg) : Statement (.remu rd rs1 rs2) := (encR_and_FE00707F _ _ _ _ _ _).trans rfl
theorem mulw (rd rs1 rs2 : Reg) : Statement (.mulw rd rs1 rs2) := (encR_and_FE00707F _ _ _ _ _ _).trans rfl
theorem divw (rd rs1 rs2 : Reg) : Statement (.divw rd rs1 rs2) := (encR_and_FE00707F _ _ _ _ _ _).trans rfl
theorem divuw (rd rs1 rs2 : Reg) : Statement (.divuw rd rs1 rs2) := (encR_and_FE00707F _ _ _ _ _ _).trans rfl
theorem remw (rd rs1 rs2 : Reg) : Statement (.remw rd rs1 rs2) := (encR_and_FE00707F _ _ _ _ _ _).trans rfl
theorem remuw (rd rs1 rs2 : Reg) : Statement (.remuw rd rs1 rs2) := (encR_and_FE00707F _ _ _ _ _ _).trans rfl
theorem jal (rd : Reg) (offset : BitVec 21) : Statement (.jal rd offset) := (encJ_and_0000007F _ _ _).trans rfl
theorem jalr (rd rs1 : Reg) (imm : BitVec 12) : Statement (.jalr rd rs1 imm) := (encI_and_0000707F _ _ _ _ _).trans rfl
theorem beq (rs1 rs2 : Reg) (offset : BitVec 13) : Statement (.beq rs1 rs2 offset) := (encB_and_0000707F _ _ _ _ _).trans rfl
theorem bne (rs1 rs2 : Reg) (offset : BitVec 13) : Statement (.bne rs1 rs2 offset) := (encB_and_0000707F _ _ _ _ _).trans rfl
theorem blt (rs1 rs2 : Reg) (offset : BitVec 13) : Statement (.blt rs1 rs2 offset) := (encB_and_0000707F _ _ _ _ _).trans rfl
theorem bge (rs1 rs2 : Reg) (offset : BitVec 13) : Statement (.bge rs1 rs2 offset) := (encB_and_0000707F _ _ _ _ _).trans rfl
theorem bltu (rs1 rs2 : Reg) (offset : BitVec 13) : Statement (.bltu rs1 rs2 offset) := (encB_and_0000707F _ _ _ _ _).trans rfl
theorem bgeu (rs1 rs2 : Reg) (offset : BitVec 13) : Statement (.bgeu rs1 rs2 offset) := (encB_and_0000707F _ _ _ _ _).trans rfl
theorem lb (rd rs1 : Reg) (imm : BitVec 12) : Statement (.lb rd rs1 imm) := (encI_and_0000707F _ _ _ _ _).trans rfl
theorem lh (rd rs1 : Reg) (imm : BitVec 12) : Statement (.lh rd rs1 imm) := (encI_and_0000707F _ _ _ _ _).trans rfl
theorem lw (rd rs1 : Reg) (imm : BitVec 12) : Statement (.lw rd rs1 imm) := (encI_and_0000707F _ _ _ _ _).trans rfl
theorem ld (rd rs1 : Reg) (imm : BitVec 12) : Statement (.ld rd rs1 imm) := (encI_and_0000707F _ _ _ _ _).trans rfl
theorem lbu (rd rs1 : Reg) (imm : BitVec 12) : Statement (.lbu rd rs1 imm) := (encI_and_0000707F _ _ _ _ _).trans rfl
theorem lhu (rd rs1 : Reg) (imm : BitVec 12) : Statement (.lhu rd rs1 imm) := (encI_and_0000707F _ _ _ _ _).trans rfl
theorem lwu (rd rs1 : Reg) (imm : BitVec 12) : Statement (.lwu rd rs1 imm) := (encI_and_0000707F _ _ _ _ _).trans rfl
theorem sb (rs2 rs1 : Reg) (imm : BitVec 12) : Statement (.sb rs2 rs1 imm) := (encS_and_0000707F _ _ _ _ _).trans rfl
theorem sh (rs2 rs1 : Reg) (imm : BitVec 12) : Statement (.sh rs2 rs1 imm) := (encS_and_0000707F _ _ _ _ _).trans rfl
theorem sw (rs2 rs1 : Reg) (imm : BitVec 12) : Statement (.sw rs2 rs1 imm) := (encS_and_0000707F _ _ _ _ _).trans rfl
theorem sd (rs2 rs1 : Reg) (imm : BitVec 12) : Statement (.sd rs2 rs1 imm) := (encS_and_0000707F _ _ _ _ _).trans rfl
theorem fence (fm pred succ : BitVec 4) (rs1 rd : Reg) : Statement (.fence fm pred succ rs1 rd) := (encI_and_0000707F _ _ _ _ _).trans rfl
theorem fenceI (imm : BitVec 12) (rs1 rd : Reg) : Statement (.fenceI imm rs1 rd) := (encI_and_0000707F _ _ _ _ _).trans rfl
theorem ecall : Statement .ecall := (encI_and_FFFFFFFF _ _ _ _ _).trans rfl
theorem ebreak : Statement .ebreak := (encI_and_FFFFFFFF _ _ _ _ _).trans rfl
theorem csrrw (rd : Reg) (csr : BitVec 12) (rs1 : Reg) : Statement (.csrrw rd csr rs1) := (encI_and_0000707F _ _ _ _ _).trans rfl
theorem csrrs (rd : Reg) (csr : BitVec 12) (rs1 : Reg) : Statement (.csrrs rd csr rs1) := (encI_and_0000707F _ _ _ _ _).trans rfl
theorem csrrc (rd : Reg) (csr : BitVec 12) (rs1 : Reg) : Statement (.csrrc rd csr rs1) := (encI_and_0000707F _ _ _ _ _).trans rfl
theorem csrrwi (rd : Reg) (csr : BitVec 12) (uimm : BitVec 5) : Statement (.csrrwi rd csr uimm) := (encI_and_0000707F _ _ _ _ _).trans rfl
theorem csrrsi (rd : Reg) (csr : BitVec 12) (uimm : BitVec 5) : Statement (.csrrsi rd csr uimm) := (encI_and_0000707F _ _ _ _ _).trans rfl
theorem csrrci (rd : Reg) (csr : BitVec 12) (uimm : BitVec 5) : Statement (.csrrci rd csr uimm) := (encI_and_0000707F _ _ _ _ _).trans rfl
theorem lrW (rd rs1 : Reg) (aq rl : BitVec 1) : Statement (.lrW rd rs1 aq rl) := (encAmo_and_F9F0707F _ _ _ _ _ _ _).trans rfl
theorem lrD (rd rs1 : Reg) (aq rl : BitVec 1) : Statement (.lrD rd rs1 aq rl) := (encAmo_and_F9F0707F _ _ _ _ _ _ _).trans rfl
theorem scW (rd rs2 rs1 : Reg) (aq rl : BitVec 1) : Statement (.scW rd rs2 rs1 aq rl) := (encAmo_and_F800707F _ _ _ _ _ _ _).trans rfl
theorem scD (rd rs2 rs1 : Reg) (aq rl : BitVec 1) : Statement (.scD rd rs2 rs1 aq rl) := (encAmo_and_F800707F _ _ _ _ _ _ _).trans rfl
theorem amoswapW (rd rs2 rs1 : Reg) (aq rl : BitVec 1) : Statement (.amoswapW rd rs2 rs1 aq rl) := (encAmo_and_F800707F _ _ _ _ _ _ _).trans rfl
theorem amoaddW (rd rs2 rs1 : Reg) (aq rl : BitVec 1) : Statement (.amoaddW rd rs2 rs1 aq rl) := (encAmo_and_F800707F _ _ _ _ _ _ _).trans rfl
theorem amoxorW (rd rs2 rs1 : Reg) (aq rl : BitVec 1) : Statement (.amoxorW rd rs2 rs1 aq rl) := (encAmo_and_F800707F _ _ _ _ _ _ _).trans rfl
theorem amoandW (rd rs2 rs1 : Reg) (aq rl : BitVec 1) : Statement (.amoandW rd rs2 rs1 aq rl) := (encAmo_and_F800707F _ _ _ _ _ _ _).trans rfl
theorem amoorW (rd rs2 rs1 : Reg) (aq rl : BitVec 1) : Statement (.amoorW rd rs2 rs1 aq rl) := (encAmo_and_F800707F _ _ _ _ _ _ _).trans rfl
theorem amominW (rd rs2 rs1 : Reg) (aq rl : BitVec 1) : Statement (.amominW rd rs2 rs1 aq rl) := (encAmo_and_F800707F _ _ _ _ _ _ _).trans rfl
theorem amomaxW (rd rs2 rs1 : Reg) (aq rl : BitVec 1) : Statement (.amomaxW rd rs2 rs1 aq rl) := (encAmo_and_F800707F _ _ _ _ _ _ _).trans rfl
theorem amominuW (rd rs2 rs1 : Reg) (aq rl : BitVec 1) : Statement (.amominuW rd rs2 rs1 aq rl) := (encAmo_and_F800707F _ _ _ _ _ _ _).trans rfl
theorem amomaxuW (rd rs2 rs1 : Reg) (aq rl : BitVec 1) : Statement (.amomaxuW rd rs2 rs1 aq rl) := (encAmo_and_F800707F _ _ _ _ _ _ _).trans rfl
theorem amoswapD (rd rs2 rs1 : Reg) (aq rl : BitVec 1) : Statement (.amoswapD rd rs2 rs1 aq rl) := (encAmo_and_F800707F _ _ _ _ _ _ _).trans rfl
theorem amoaddD (rd rs2 rs1 : Reg) (aq rl : BitVec 1) : Statement (.amoaddD rd rs2 rs1 aq rl) := (encAmo_and_F800707F _ _ _ _ _ _ _).trans rfl
theorem amoxorD (rd rs2 rs1 : Reg) (aq rl : BitVec 1) : Statement (.amoxorD rd rs2 rs1 aq rl) := (encAmo_and_F800707F _ _ _ _ _ _ _).trans rfl
theorem amoandD (rd rs2 rs1 : Reg) (aq rl : BitVec 1) : Statement (.amoandD rd rs2 rs1 aq rl) := (encAmo_and_F800707F _ _ _ _ _ _ _).trans rfl
theorem amoorD (rd rs2 rs1 : Reg) (aq rl : BitVec 1) : Statement (.amoorD rd rs2 rs1 aq rl) := (encAmo_and_F800707F _ _ _ _ _ _ _).trans rfl
theorem amominD (rd rs2 rs1 : Reg) (aq rl : BitVec 1) : Statement (.amominD rd rs2 rs1 aq rl) := (encAmo_and_F800707F _ _ _ _ _ _ _).trans rfl
theorem amomaxD (rd rs2 rs1 : Reg) (aq rl : BitVec 1) : Statement (.amomaxD rd rs2 rs1 aq rl) := (encAmo_and_F800707F _ _ _ _ _ _ _).trans rfl
theorem amominuD (rd rs2 rs1 : Reg) (aq rl : BitVec 1) : Statement (.amominuD rd rs2 rs1 aq rl) := (encAmo_and_F800707F _ _ _ _ _ _ _).trans rfl
theorem amomaxuD (rd rs2 rs1 : Reg) (aq rl : BitVec 1) : Statement (.amomaxuD rd rs2 rs1 aq rl) := (encAmo_and_F800707F _ _ _ _ _ _ _).trans rfl
theorem flw (rd rs1 : Reg) (imm : BitVec 12) : Statement (.flw rd rs1 imm) := (encI_and_0000707F _ _ _ _ _).trans rfl
theorem fsw (rs2 rs1 : Reg) (imm : BitVec 12) : Statement (.fsw rs2 rs1 imm) := (encS_and_0000707F _ _ _ _ _).trans rfl
theorem fmaddS (rd rs1 rs2 rs3 : Reg) (rm : BitVec 3) : Statement (.fmaddS rd rs1 rs2 rs3 rm) := (encR4_and_0600007F _ _ _ _ _ _ _).trans rfl
theorem fmsubS (rd rs1 rs2 rs3 : Reg) (rm : BitVec 3) : Statement (.fmsubS rd rs1 rs2 rs3 rm) := (encR4_and_0600007F _ _ _ _ _ _ _).trans rfl
theorem fnmsubS (rd rs1 rs2 rs3 : Reg) (rm : BitVec 3) : Statement (.fnmsubS rd rs1 rs2 rs3 rm) := (encR4_and_0600007F _ _ _ _ _ _ _).trans rfl
theorem fnmaddS (rd rs1 rs2 rs3 : Reg) (rm : BitVec 3) : Statement (.fnmaddS rd rs1 rs2 rs3 rm) := (encR4_and_0600007F _ _ _ _ _ _ _).trans rfl
theorem faddS (rd rs1 rs2 : Reg) (rm : BitVec 3) : Statement (.faddS rd rs1 rs2 rm) := (encR_and_FE00007F _ _ _ _ _ _).trans rfl
theorem fsubS (rd rs1 rs2 : Reg) (rm : BitVec 3) : Statement (.fsubS rd rs1 rs2 rm) := (encR_and_FE00007F _ _ _ _ _ _).trans rfl
theorem fmulS (rd rs1 rs2 : Reg) (rm : BitVec 3) : Statement (.fmulS rd rs1 rs2 rm) := (encR_and_FE00007F _ _ _ _ _ _).trans rfl
theorem fdivS (rd rs1 rs2 : Reg) (rm : BitVec 3) : Statement (.fdivS rd rs1 rs2 rm) := (encR_and_FE00007F _ _ _ _ _ _).trans rfl
theorem fsqrtS (rd rs1 : Reg) (rm : BitVec 3) : Statement (.fsqrtS rd rs1 rm) := (encR_and_FFF0007F _ _ _ _ _ _).trans rfl
theorem fsgnjS (rd rs1 rs2 : Reg) : Statement (.fsgnjS rd rs1 rs2) := (encR_and_FE00707F _ _ _ _ _ _).trans rfl
theorem fsgnjnS (rd rs1 rs2 : Reg) : Statement (.fsgnjnS rd rs1 rs2) := (encR_and_FE00707F _ _ _ _ _ _).trans rfl
theorem fsgnjxS (rd rs1 rs2 : Reg) : Statement (.fsgnjxS rd rs1 rs2) := (encR_and_FE00707F _ _ _ _ _ _).trans rfl
theorem fminS (rd rs1 rs2 : Reg) : Statement (.fminS rd rs1 rs2) := (encR_and_FE00707F _ _ _ _ _ _).trans rfl
theorem fmaxS (rd rs1 rs2 : Reg) : Statement (.fmaxS rd rs1 rs2) := (encR_and_FE00707F _ _ _ _ _ _).trans rfl
theorem fleS (rd rs1 rs2 : Reg) : Statement (.fleS rd rs1 rs2) := (encR_and_FE00707F _ _ _ _ _ _).trans rfl
theorem fltS (rd rs1 rs2 : Reg) : Statement (.fltS rd rs1 rs2) := (encR_and_FE00707F _ _ _ _ _ _).trans rfl
theorem feqS (rd rs1 rs2 : Reg) : Statement (.feqS rd rs1 rs2) := (encR_and_FE00707F _ _ _ _ _ _).trans rfl
theorem fcvtWS (rd rs1 : Reg) (rm : BitVec 3) : Statement (.fcvtWS rd rs1 rm) := (encR_and_FFF0007F _ _ _ _ _ _).trans rfl
theorem fcvtSW (rd rs1 : Reg) (rm : BitVec 3) : Statement (.fcvtSW rd rs1 rm) := (encR_and_FFF0007F _ _ _ _ _ _).trans rfl
theorem fcvtWuS (rd rs1 : Reg) (rm : BitVec 3) : Statement (.fcvtWuS rd rs1 rm) := (encR_and_FFF0007F _ _ _ _ _ _).trans rfl
theorem fcvtSWu (rd rs1 : Reg) (rm : BitVec 3) : Statement (.fcvtSWu rd rs1 rm) := (encR_and_FFF0007F _ _ _ _ _ _).trans rfl
theorem fcvtLS (rd rs1 : Reg) (rm : BitVec 3) : Statement (.fcvtLS rd rs1 rm) := (encR_and_FFF0007F _ _ _ _ _ _).trans rfl
theorem fcvtSL (rd rs1 : Reg) (rm : BitVec 3) : Statement (.fcvtSL rd rs1 rm) := (encR_and_FFF0007F _ _ _ _ _ _).trans rfl
theorem fcvtLuS (rd rs1 : Reg) (rm : BitVec 3) : Statement (.fcvtLuS rd rs1 rm) := (encR_and_FFF0007F _ _ _ _ _ _).trans rfl
theorem fcvtSLu (rd rs1 : Reg) (rm : BitVec 3) : Statement (.fcvtSLu rd rs1 rm) := (encR_and_FFF0007F _ _ _ _ _ _).trans rfl
theorem fmvXW (rd rs1 : Reg) : Statement (.fmvXW rd rs1) := (encR_and_FFF0707F _ _ _ _ _ _).trans rfl
theorem fclassS (rd rs1 : Reg) : Statement (.fclassS rd rs1) := (encR_and_FFF0707F _ _ _ _ _ _).trans rfl
theorem fmvWX (rd rs1 : Reg) : Statement (.fmvWX rd rs1) := (encR_and_FFF0707F _ _ _ _ _ _).trans rfl
theorem fld (rd rs1 : Reg) (imm : BitVec 12) : Statement (.fld rd rs1 imm) := (encI_and_0000707F _ _ _ _ _).trans rfl
theorem fsd (rs2 rs1 : Reg) (imm : BitVec 12) : Statement (.fsd rs2 rs1 imm) := (encS_and_0000707F _ _ _ _ _).trans rfl
theorem fmaddD (rd rs1 rs2 rs3 : Reg) (rm : BitVec 3) : Statement (.fmaddD rd rs1 rs2 rs3 rm) := (encR4_and_0600007F _ _ _ _ _ _ _).trans rfl
theorem fmsubD (rd rs1 rs2 rs3 : Reg) (rm : BitVec 3) : Statement (.fmsubD rd rs1 rs2 rs3 rm) := (encR4_and_0600007F _ _ _ _ _ _ _).trans rfl
theorem fnmsubD (rd rs1 rs2 rs3 : Reg) (rm : BitVec 3) : Statement (.fnmsubD rd rs1 rs2 rs3 rm) := (encR4_and_0600007F _ _ _ _ _ _ _).trans rfl
theorem fnmaddD (rd rs1 rs2 rs3 : Reg) (rm : BitVec 3) : Statement (.fnmaddD rd rs1 rs2 rs3 rm) := (encR4_and_0600007F _ _ _ _ _ _ _).trans rfl
theorem faddD (rd rs1 rs2 : Reg) (rm : BitVec 3) : Statement (.faddD rd rs1 rs2 rm) := (encR_and_FE00007F _ _ _ _ _ _).trans rfl
theorem fsubD (rd rs1 rs2 : Reg) (rm : BitVec 3) : Statement (.fsubD rd rs1 rs2 rm) := (encR_and_FE00007F _ _ _ _ _ _).trans rfl
theorem fmulD (rd rs1 rs2 : Reg) (rm : BitVec 3) : Statement (.fmulD rd rs1 rs2 rm) := (encR_and_FE00007F _ _ _ _ _ _).trans rfl
theorem fdivD (rd rs1 rs2 : Reg) (rm : BitVec 3) : Statement (.fdivD rd rs1 rs2 rm) := (encR_and_FE00007F _ _ _ _ _ _).trans rfl
theorem fsqrtD (rd rs1 : Reg) (rm : BitVec 3) : Statement (.fsqrtD rd rs1 rm) := (encR_and_FFF0007F _ _ _ _ _ _).trans rfl
theorem fsgnjD (rd rs1 rs2 : Reg) : Statement (.fsgnjD rd rs1 rs2) := (encR_and_FE00707F _ _ _ _ _ _).trans rfl
theorem fsgnjnD (rd rs1 rs2 : Reg) : Statement (.fsgnjnD rd rs1 rs2) := (encR_and_FE00707F _ _ _ _ _ _).trans rfl
theorem fsgnjxD (rd rs1 rs2 : Reg) : Statement (.fsgnjxD rd rs1 rs2) := (encR_and_FE00707F _ _ _ _ _ _).trans rfl
theorem fminD (rd rs1 rs2 : Reg) : Statement (.fminD rd rs1 rs2) := (encR_and_FE00707F _ _ _ _ _ _).trans rfl
theorem fmaxD (rd rs1 rs2 : Reg) : Statement (.fmaxD rd rs1 rs2) := (encR_and_FE00707F _ _ _ _ _ _).trans rfl
theorem fleD (rd rs1 rs2 : Reg) : Statement (.fleD rd rs1 rs2) := (encR_and_FE00707F _ _ _ _ _ _).trans rfl
theorem fltD (rd rs1 rs2 : Reg) : Statement (.fltD rd rs1 rs2) := (encR_and_FE00707F _ _ _ _ _ _).trans rfl
theorem feqD (rd rs1 rs2 : Reg) : Statement (.feqD rd rs1 rs2) := (encR_and_FE00707F _ _ _ _ _ _).trans rfl
theorem fcvtWD (rd rs1 : Reg) (rm : BitVec 3) : Statement (.fcvtWD rd rs1 rm) := (encR_and_FFF0007F _ _ _ _ _ _).trans rfl
theorem fcvtDW (rd rs1 : Reg) (rm : BitVec 3) : Statement (.fcvtDW rd rs1 rm) := (encR_and_FFF0007F _ _ _ _ _ _).trans rfl
theorem fcvtWuD (rd rs1 : Reg) (rm : BitVec 3) : Statement (.fcvtWuD rd rs1 rm) := (encR_and_FFF0007F _ _ _ _ _ _).trans rfl
theorem fcvtDWu (rd rs1 : Reg) (rm : BitVec 3) : Statement (.fcvtDWu rd rs1 rm) := (encR_and_FFF0007F _ _ _ _ _ _).trans rfl
theorem fcvtLD (rd rs1 : Reg) (rm : BitVec 3) : Statement (.fcvtLD rd rs1 rm) := (encR_and_FFF0007F _ _ _ _ _ _).trans rfl
theorem fcvtDL (rd rs1 : Reg) (rm : BitVec 3) : Statement (.fcvtDL rd rs1 rm) := (encR_and_FFF0007F _ _ _ _ _ _).trans rfl
theorem fcvtLuD (rd rs1 : Reg) (rm : BitVec 3) : Statement (.fcvtLuD rd rs1 rm) := (encR_and_FFF0007F _ _ _ _ _ _).trans rfl
theorem fcvtDLu (rd rs1 : Reg) (rm : BitVec 3) : Statement (.fcvtDLu rd rs1 rm) := (encR_and_FFF0007F _ _ _ _ _ _).trans rfl
theorem fmvXD (rd rs1 : Reg) : Statement (.fmvXD rd rs1) := (encR_and_FFF0707F _ _ _ _ _ _).trans rfl
theorem fclassD (rd rs1 : Reg) : Statement (.fclassD rd rs1) := (encR_and_FFF0707F _ _ _ _ _ _).trans rfl
theorem fmvDX (rd rs1 : Reg) : Statement (.fmvDX rd rs1) := (encR_and_FFF0707F _ _ _ _ _ _).trans rfl
theorem fcvtSD (rd rs1 : Reg) (rm : BitVec 3) : Statement (.fcvtSD rd rs1 rm) := (encR_and_FFF0007F _ _ _ _ _ _).trans rfl
theorem fcvtDS (rd rs1 : Reg) (rm : BitVec 3) : Statement (.fcvtDS rd rs1 rm) := (encR_and_FFF0007F _ _ _ _ _ _).trans rfl
theorem cAddi4spn (rd : CReg) (nzuimm : BitVec 10) : Statement (.cAddi4spn rd nzuimm) := (encCiw_and_0000E003 _ _).trans rfl
theorem cFld (rd rs1 : CReg) (uimm : BitVec 8) : Statement (.cFld rd rs1 uimm) := (encClD_and_0000E003 _ _ _ _).trans rfl
theorem cLw (rd rs1 : CReg) (uimm : BitVec 7) : Statement (.cLw rd rs1 uimm) := (encClW_and_0000E003 _ _ _ _).trans rfl
theorem cLd (rd rs1 : CReg) (uimm : BitVec 8) : Statement (.cLd rd rs1 uimm) := (encClD_and_0000E003 _ _ _ _).trans rfl
theorem cFsd (rs2 rs1 : CReg) (uimm : BitVec 8) : Statement (.cFsd rs2 rs1 uimm) := (encClD_and_0000E003 _ _ _ _).trans rfl
theorem cSw (rs2 rs1 : CReg) (uimm : BitVec 7) : Statement (.cSw rs2 rs1 uimm) := (encClW_and_0000E003 _ _ _ _).trans rfl
theorem cSd (rs2 rs1 : CReg) (uimm : BitVec 8) : Statement (.cSd rs2 rs1 uimm) := (encClD_and_0000E003 _ _ _ _).trans rfl
theorem cNop (imm : BitVec 6) : Statement (.cNop imm) := (encCi_and_0000EF83 _ _ _ _).trans rfl
theorem cAddi (rd : Reg) (imm : BitVec 6) : Statement (.cAddi rd imm) := (encCi_and_0000E003 _ _ _ _).trans rfl
theorem cAddiw (rd : Reg) (imm : BitVec 6) : Statement (.cAddiw rd imm) := (encCi_and_0000E003 _ _ _ _).trans rfl
theorem cLi (rd : Reg) (imm : BitVec 6) : Statement (.cLi rd imm) := (encCi_and_0000E003 _ _ _ _).trans rfl
theorem cAddi16sp (nzimm : BitVec 10) : Statement (.cAddi16sp nzimm) := (encCi16sp_and_0000EF83 _).trans rfl
theorem cLui (rd : Reg) (nzimm : BitVec 6) : Statement (.cLui rd nzimm) := (encCi_and_0000E003 _ _ _ _).trans rfl
theorem cSrli (rd : CReg) (shamt : BitVec 6) : Statement (.cSrli rd shamt) := (encCbImm_and_0000EC03 _ _ _).trans rfl
theorem cSrai (rd : CReg) (shamt : BitVec 6) : Statement (.cSrai rd shamt) := (encCbImm_and_0000EC03 _ _ _).trans rfl
theorem cAndi (rd : CReg) (imm : BitVec 6) : Statement (.cAndi rd imm) := (encCbImm_and_0000EC03 _ _ _).trans rfl
theorem cSub (rd rs2 : CReg) : Statement (.cSub rd rs2) := (encCa_and_0000FC63 _ _ _ _).trans rfl
theorem cXor (rd rs2 : CReg) : Statement (.cXor rd rs2) := (encCa_and_0000FC63 _ _ _ _).trans rfl
theorem cOr (rd rs2 : CReg) : Statement (.cOr rd rs2) := (encCa_and_0000FC63 _ _ _ _).trans rfl
theorem cAnd (rd rs2 : CReg) : Statement (.cAnd rd rs2) := (encCa_and_0000FC63 _ _ _ _).trans rfl
theorem cSubw (rd rs2 : CReg) : Statement (.cSubw rd rs2) := (encCa_and_0000FC63 _ _ _ _).trans rfl
theorem cAddw (rd rs2 : CReg) : Statement (.cAddw rd rs2) := (encCa_and_0000FC63 _ _ _ _).trans rfl
theorem cJ (offset : BitVec 12) : Statement (.cJ offset) := (encCj_and_0000E003 _).trans rfl
theorem cBeqz (rs1 : CReg) (offset : BitVec 9) : Statement (.cBeqz rs1 offset) := (encCb_and_0000E003 _ _ _).trans rfl
theorem cBnez (rs1 : CReg) (offset : BitVec 9) : Statement (.cBnez rs1 offset) := (encCb_and_0000E003 _ _ _).trans rfl
theorem cSlli (rd : Reg) (shamt : BitVec 6) : Statement (.cSlli rd shamt) := (encCi_and_0000E003 _ _ _ _).trans rfl
theorem cFldsp (rd : Reg) (uimm : BitVec 9) : Statement (.cFldsp rd uimm) := (encCiDsp_and_0000E003 _ _ _).trans rfl
theorem cLwsp (rd : Reg) (uimm : BitVec 8) : Statement (.cLwsp rd uimm) := (encCiWsp_and_0000E003 _ _ _).trans rfl
theorem cLdsp (rd : Reg) (uimm : BitVec 9) : Statement (.cLdsp rd uimm) := (encCiDsp_and_0000E003 _ _ _).trans rfl
theorem cJr (rs1 : Reg) : Statement (.cJr rs1) := (encCr_and_0000F07F _ _ _).trans rfl
theorem cMv (rd rs2 : Reg) : Statement (.cMv rd rs2) := (encCr_and_0000F003 _ _ _).trans rfl
theorem cEbreak : Statement .cEbreak := (encCr_and_0000FFFF _ _ _).trans rfl
theorem cJalr (rs1 : Reg) : Statement (.cJalr rs1) := (encCr_and_0000F07F _ _ _).trans rfl
theorem cAdd (rd rs2 : Reg) : Statement (.cAdd rd rs2) := (encCr_and_0000F003 _ _ _).trans rfl
theorem cFsdsp (rs2 : Reg) (uimm : BitVec 9) : Statement (.cFsdsp rs2 uimm) := (encCssD_and_0000E003 _ _ _).trans rfl
theorem cSwsp (rs2 : Reg) (uimm : BitVec 8) : Statement (.cSwsp rs2 uimm) := (encCssW_and_0000E003 _ _ _).trans rfl
theorem cSdsp (rs2 : Reg) (uimm : BitVec 9) : Statement (.cSdsp rs2 uimm) := (encCssD_and_0000E003 _ _ _).trans rfl

end Sys2Proof.Laws.TableRow
end

