-- ==== Sys2Proof/Tests/Slice0.lean ====
section
/-! SUPPORT. Tests: ill-formed terms the well-formedness check refuses, words of the spec that decode to their instructions,
values of spec/95_test_vectors.md, and a witness for the hypotheses of every statement. -/

namespace Sys2Proof.Machine.Tests

/-! ### Well-formedness: one ill-formed term for each check -/

theorem test_wf_even : [Instr.jal 1 3, .beq 1 2 5, .bgeu 1 2 1, .cJ 1, .cBeqz 0 3].all (fun i => !i.wf) = true := by decide
theorem test_wf_low2 : [Instr.cAddi4spn 0 6, .cLw 0 1 2, .cSw 0 1 1, .cLwsp 1 2, .cSwsp 1 3].all (fun i => !i.wf) = true := by
  decide
theorem test_wf_low3 :
    [Instr.cLd 0 1 4, .cFld 0 1 4, .cSd 0 1 2, .cFsd 0 1 1, .cLdsp 1 4, .cFldsp 1 4, .cSdsp 1 4, .cFsdsp 1 4].all
      (fun i => !i.wf) = true := by decide
theorem test_wf_low4 : [Instr.cAddi16sp 8].all (fun i => !i.wf) = true := by decide
theorem test_wf_nonzero :
    [Instr.cAddi4spn 0 0, .cAddi 0 1, .cAddiw 0 1, .cAddi16sp 0, .cLui 1 0, .cLwsp 0 4, .cLdsp 0 8, .cJr 0,
      .cMv 1 0, .cJalr 0, .cAdd 1 0].all (fun i => !i.wf) = true := by decide
theorem test_wf_notSp : [Instr.cLui 2 1].all (fun i => !i.wf) = true := by decide
theorem test_wf_accepts : [Instr.jal 1 2, .cAddi4spn 0 4, .cLd 0 1 8, .cAddi16sp 16, .cLui 3 1, .cJr 1].all Instr.wf = true := by
  decide

/-! ### Decoding: a word of the spec for every instruction, each also what the encoder gives -/

/-- Each word decodes to its instruction, which is well formed and encoded as the word. -/
def decodes (l : List (Nat × Instr)) : Bool :=
  l.all fun (w, i) => decodeTableWord (8 * i.len) w == some i && encode i == BitVec.ofNat 32 w && i.wf

theorem test_decode_immediate : decodes [
    (0x800001B7, .lui 3 0x80000), (0x00001197, .auipc 3 1), (0x04D00293, .addi 5 0 0x4d), (0xFFF0A193, .slti 3 1 (-1)),
    (0xFFF0B193, .sltiu 3 1 (-1)), (0xFFF0C193, .xori 3 1 (-1)), (0x8000E193, .ori 3 1 (-2048)), (0x0FF0F193, .andi 3 1 0xff),
    (0x03F09193, .slli 3 1 0x3f), (0x03F0D193, .srli 3 1 0x3f), (0x43F0D193, .srai 3 1 0x3f)] = true := by decide +kernel

theorem test_decode_register : decodes [
    (0x002081B3, .add 3 1 2), (0x402081B3, .sub 3 1 2), (0x002091B3, .sll 3 1 2), (0x0020A1B3, .slt 3 1 2),
    (0x0020B1B3, .sltu 3 1 2), (0x0020C1B3, .xor 3 1 2), (0x0020D1B3, .srl 3 1 2), (0x4020D1B3, .sra 3 1 2),
    (0x0020E1B3, .or 3 1 2), (0x0020F1B3, .and 3 1 2)] = true := by decide +kernel

theorem test_decode_word : decodes [
    (0x0000819B, .addiw 3 1 0), (0x01F3129B, .slliw 5 6 0x1f), (0x01F0D19B, .srliw 3 1 0x1f), (0x41F0D19B, .sraiw 3 1 0x1f),
    (0x002081BB, .addw 3 1 2), (0x402081BB, .subw 3 1 2), (0x002091BB, .sllw 3 1 2), (0x0020D1BB, .srlw 3 1 2),
    (0x4020D1BB, .sraw 3 1 2)] = true := by decide +kernel

theorem test_decode_multiply_divide : decodes [
    (0x022081B3, .mul 3 1 2), (0x022091B3, .mulh 3 1 2), (0x0220A1B3, .mulhsu 3 1 2), (0x0220B1B3, .mulhu 3 1 2),
    (0x0220C1B3, .div 3 1 2), (0x0220D1B3, .divu 3 1 2), (0x0220E1B3, .rem 3 1 2), (0x0220F1B3, .remu 3 1 2),
    (0x022081BB, .mulw 3 1 2), (0x0220C1BB, .divw 3 1 2), (0x0220D1BB, .divuw 3 1 2), (0x0220E1BB, .remw 3 1 2),
    (0x0220F1BB, .remuw 3 1 2)] = true := by decide +kernel

theorem test_decode_transfer : decodes [
    (0x008000EF, .jal 1 8), (0x003280E7, .jalr 1 5 3), (0x00208863, .beq 1 2 0x10), (0xFE209EE3, .bne 1 2 (-4)),
    (0x0020C463, .blt 1 2 8), (0x0020D463, .bge 1 2 8), (0x0020E463, .bltu 1 2 8), (0x0020F463, .bgeu 1 2 8)] = true := by decide +kernel

theorem test_decode_load_store_fence : decodes [
    (0x00758603, .lb 12 11 7), (0x00059683, .lh 13 11 0), (0x0015A883, .lw 17 11 1), (0x0005B803, .ld 16 11 0),
    (0x0035C783, .lbu 15 11 3), (0x0005D683, .lhu 13 11 0), (0x0045E703, .lwu 14 11 4), (0x00A58823, .sb 10 11 0x10),
    (0x00A59823, .sh 10 11 0x10), (0x00A5A823, .sw 10 11 0x10), (0x00A5B823, .sd 10 11 0x10), (0x0FF0000F, .fence 0 15 15 0 0),
    (0x0000100F, .fenceI 0 0 0)] = true := by decide +kernel

theorem test_decode_csr_system : decodes [
    (0x00000073, .ecall), (0x00100073, .ebreak), (0x003312F3, .csrrw 5 3 6), (0x001022F3, .csrrs 5 1 0),
    (0x00133073, .csrrc 0 1 6), (0x0023D2F3, .csrrwi 5 2 7), (0x001062F3, .csrrsi 5 1 0), (0x003FF073, .csrrci 0 3 0x1f)] = true := by decide +kernel

theorem test_decode_atomic_word : decodes [
    (0x100322AF, .lrW 5 6 0 0), (0x100332AF, .lrD 5 6 0 0), (0x188323AF, .scW 7 8 6 0 0), (0x188333AF, .scD 7 8 6 0 0),
    (0x087322AF, .amoswapW 5 7 6 0 0), (0x007322AF, .amoaddW 5 7 6 0 0), (0x207322AF, .amoxorW 5 7 6 0 0),
    (0x607322AF, .amoandW 5 7 6 0 0), (0x407322AF, .amoorW 5 7 6 0 0), (0x807322AF, .amominW 5 7 6 0 0),
    (0xA07322AF, .amomaxW 5 7 6 0 0), (0xC07322AF, .amominuW 5 7 6 0 0), (0xE07322AF, .amomaxuW 5 7 6 0 0)] = true := by decide +kernel

theorem test_decode_atomic_doubleword : decodes [
    (0x087332AF, .amoswapD 5 7 6 0 0), (0x007332AF, .amoaddD 5 7 6 0 0), (0x207332AF, .amoxorD 5 7 6 0 0),
    (0x607332AF, .amoandD 5 7 6 0 0), (0x407332AF, .amoorD 5 7 6 0 0), (0x807332AF, .amominD 5 7 6 0 0),
    (0xA07332AF, .amomaxD 5 7 6 0 0), (0xC07332AF, .amominuD 5 7 6 0 0), (0xE07332AF, .amomaxuD 5 7 6 0 0)] = true := by decide +kernel

theorem test_decode_single_arithmetic : decodes [
    (0x0080A187, .flw 3 1 8), (0x0020A427, .fsw 2 1 8), (0x18208243, .fmaddS 4 1 2 3 0), (0x18208247, .fmsubS 4 1 2 3 0),
    (0x1820824B, .fnmsubS 4 1 2 3 0), (0x1820824F, .fnmaddS 4 1 2 3 0), (0x002081D3, .faddS 3 1 2 0),
    (0x082081D3, .fsubS 3 1 2 0), (0x102081D3, .fmulS 3 1 2 0), (0x182081D3, .fdivS 3 1 2 0), (0x580081D3, .fsqrtS 3 1 0),
    (0x202081D3, .fsgnjS 3 1 2), (0x202091D3, .fsgnjnS 3 1 2), (0x203120D3, .fsgnjxS 1 2 3), (0x282081D3, .fminS 3 1 2),
    (0x282091D3, .fmaxS 3 1 2)] = true := by decide +kernel

theorem test_decode_single_other : decodes [
    (0xA02081D3, .fleS 3 1 2), (0xA02091D3, .fltS 3 1 2), (0xA020A1D3, .feqS 3 1 2), (0xC00081D3, .fcvtWS 3 1 0),
    (0xD00081D3, .fcvtSW 3 1 0), (0xC01081D3, .fcvtWuS 3 1 0), (0xD01081D3, .fcvtSWu 3 1 0), (0xC02081D3, .fcvtLS 3 1 0),
    (0xD02081D3, .fcvtSL 3 1 0), (0xC03081D3, .fcvtLuS 3 1 0), (0xD03081D3, .fcvtSLu 3 1 0), (0xE00081D3, .fmvXW 3 1),
    (0xE00091D3, .fclassS 3 1), (0xF00081D3, .fmvWX 3 1)] = true := by decide +kernel

theorem test_decode_double_arithmetic : decodes [
    (0xFF80B187, .fld 3 1 (-8)), (0x0020B827, .fsd 2 1 0x10), (0x1A208243, .fmaddD 4 1 2 3 0), (0x1A208247, .fmsubD 4 1 2 3 0),
    (0x1A20824B, .fnmsubD 4 1 2 3 0), (0x1A20824F, .fnmaddD 4 1 2 3 0), (0x022081D3, .faddD 3 1 2 0),
    (0x0A3170D3, .fsubD 1 2 3 7), (0x122081D3, .fmulD 3 1 2 0), (0x1A2081D3, .fdivD 3 1 2 0), (0x5A0081D3, .fsqrtD 3 1 0),
    (0x222081D3, .fsgnjD 3 1 2), (0x223110D3, .fsgnjnD 1 2 3), (0x223120D3, .fsgnjxD 1 2 3), (0x2A2081D3, .fminD 3 1 2),
    (0x2A2091D3, .fmaxD 3 1 2)] = true := by decide +kernel

theorem test_decode_double_other : decodes [
    (0xA22081D3, .fleD 3 1 2), (0xA22091D3, .fltD 3 1 2), (0xA220A1D3, .feqD 3 1 2), (0xC20081D3, .fcvtWD 3 1 0),
    (0xD20081D3, .fcvtDW 3 1 0), (0xC21081D3, .fcvtWuD 3 1 0), (0xD21081D3, .fcvtDWu 3 1 0), (0xC22081D3, .fcvtLD 3 1 0),
    (0xD22081D3, .fcvtDL 3 1 0), (0xC23081D3, .fcvtLuD 3 1 0), (0xD23081D3, .fcvtDLu 3 1 0), (0xE20181D3, .fmvXD 3 3),
    (0xE20091D3, .fclassD 3 1), (0xF20081D3, .fmvDX 3 1), (0x401081D3, .fcvtSD 3 1 0), (0x420081D3, .fcvtDS 3 1 0)] = true := by decide +kernel

theorem test_decode_compressed_quadrant01 : decodes [
    (0x0800, .cAddi4spn 0 0x10), (0x2480, .cFld 0 1 8), (0x41C8, .cLw 2 3 4), (0x6588, .cLd 2 3 8), (0xA480, .cFsd 0 1 8),
    (0xC1C8, .cSw 2 3 4), (0xE588, .cSd 2 3 8), (0x0001, .cNop 0), (0x157D, .cAddi 10 (-1)), (0x2505, .cAddiw 10 1),
    (0x5501, .cLi 10 (-32)), (0x7139, .cAddi16sp (-64)), (0x6505, .cLui 10 1), (0x8111, .cSrli 2 4), (0x8511, .cSrai 2 4),
    (0x9941, .cAndi 2 (-16)), (0x8D0D, .cSub 2 3), (0x8D2D, .cXor 2 3), (0x8D4D, .cOr 2 3), (0x8D6D, .cAnd 2 3),
    (0x9D0D, .cSubw 2 3), (0x9D2D, .cAddw 2 3)] = true := by decide +kernel

theorem test_decode_compressed_quadrant12 : decodes [
    (0xBFFD, .cJ (-2)), (0xD101, .cBeqz 2 (-256)), (0xED7D, .cBnez 2 0xfe), (0x050A, .cSlli 10 2), (0x2542, .cFldsp 10 0x10),
    (0x4532, .cLwsp 10 0xc), (0x60A2, .cLdsp 1 8), (0x8502, .cJr 10), (0x852E, .cMv 10 11), (0x9002, .cEbreak),
    (0x9502, .cJalr 10), (0x952E, .cAdd 10 11), (0xA82A, .cFsdsp 10 0x10), (0xC62A, .cSwsp 10 0xc), (0xE406, .cSdsp 1 8)] = true := by decide +kernel

/-- Words of spec/95_test_vectors.md that are no instruction (compressed: section 2.7; the rest: 2.1, 2.3 to 2.5, 2.12, 2.13). -/
theorem test_unclassifiable :
    [0x0, 0x8, 0x8000, 0x2005, 0x6101, 0x6501, 0x9C41, 0x9C61, 0x4002, 0x6002, 0x8002, 0x0020A463, 0x00029067, 0x00037283,
      0x00534023, 0x00004073, 0x30200073, 0x10500073, 0x103322AF, 0x0073022F, 0x287322AF, 0x1F, 0xFFFFFFFF].all
      (fun w => decodeInst (BitVec.ofNat 32 w) matches .error .unclassifiable) = true := by decide +kernel

/-! ### Values of spec/95_test_vectors.md, at most two an instruction, each one step from `pc` 0x10000 -/

/-- What a vector expects: an `x` or `f` register, `pc`, `fcsr`, the count, a byte of memory, a halt. -/
inductive Expect where
  | x (r v : Nat)
  | f (r v : Nat)
  | pc (v : Nat)
  | fcsr (v : Nat)
  | ic (v : Nat)
  | m (a v : Nat)
  | halt (c : Cause) (info : Nat)

def Expect.holds (t : State) : Expect → Bool
  | .x r v => t.readX (BitVec.ofNat 5 r) == BitVec.ofNat 64 v
  | .f r v => t.readF (BitVec.ofNat 5 r) == BitVec.ofNat 64 v
  | .pc v => t.pc == BitVec.ofNat 64 v
  | .fcsr v => t.fcsr == BitVec.ofNat 8 v
  | .ic v => t.icount == BitVec.ofNat 64 v
  | .m a v => Memory.read t.mem a == BitVec.ofNat 8 v
  | .halt c i => t.run == .halted c (BitVec.ofNat 64 i)

/-- A running hart at 0x10000. -/
def base : State := { State.reset with pc := 0x10000, run := .running }

def withX (s : State) (l : List (Nat × Nat)) : State := l.foldl (fun s p => s.writeX (BitVec.ofNat 5 p.1) (BitVec.ofNat 64 p.2)) s

def withF (s : State) (l : List (Nat × Nat)) : State := l.foldl (fun s p => s.writeF (BitVec.ofNat 5 p.1) (BitVec.ofNat 64 p.2)) s

/-- A vector: the word, the `x` registers, the `f` registers, bytes of memory, `fcsr`; and what it expects. -/
structure Vec where
  word : Nat
  x : List (Nat × Nat)
  f : List (Nat × Nat)
  mem : List (Nat × Nat)
  fcsr : Nat
  expect : List Expect

def Vec.state (v : Vec) : State :=
  State.withFetchWord { withF (withX base v.x) v.f with
    mem := v.mem.foldl (fun m p => Memory.write m p.1 (BitVec.ofNat 8 p.2)) [], fcsr := BitVec.ofNat 8 v.fcsr } 32 v.word

def agrees (l : List Vec) : Bool := l.all fun v =>
  match step v.state with
  | .next t => v.expect.all (Expect.holds t)
  | _ => false

theorem test_values_immediate : agrees [
    ⟨0x800001B7, [], [], [], 0x0, [.x 3 0xFFFFFFFF80000000]⟩,
    ⟨0x123451B7, [], [], [], 0x0, [.x 3 0x12345000]⟩,
    ⟨0x1197, [], [], [], 0x0, [.x 3 0x11000]⟩,
    ⟨0xFFFFF197, [], [], [], 0x0, [.x 3 0xF000]⟩,
    ⟨0xFFF08193, [(1, 0x0)], [], [], 0x0, [.x 3 0xFFFFFFFFFFFFFFFF]⟩,
    ⟨0x108013, [(1, 0x5)], [], [], 0x0, [.x 0 0x0]⟩,
    ⟨0xFFF0A193, [(1, 0xFFFFFFFFFFFFFFFE)], [], [], 0x0, [.x 3 0x1]⟩,
    ⟨0xFFF0B193, [(1, 0x5)], [], [], 0x0, [.x 3 0x1]⟩,
    ⟨0x10B193, [(1, 0x0)], [], [], 0x0, [.x 3 0x1]⟩,
    ⟨0xFFF0C193, [(1, 0xFF00FF00FF00FF)], [], [], 0x0, [.x 3 0xFF00FF00FF00FF00]⟩,
    ⟨0x8000E193, [(1, 0x1)], [], [], 0x0, [.x 3 0xFFFFFFFFFFFFF801]⟩,
    ⟨0xFF0F193, [(1, 0x12345678)], [], [], 0x0, [.x 3 0x78]⟩,
    ⟨0x3F09193, [(1, 0x3)], [], [], 0x0, [.x 3 0x8000000000000000]⟩,
    ⟨0x3F0D193, [(1, 0x8000000000000000)], [], [], 0x0, [.x 3 0x1]⟩,
    ⟨0x43F0D193, [(1, 0x8000000000000000)], [], [], 0x0, [.x 3 0xFFFFFFFFFFFFFFFF]⟩] = true := by decide +kernel

theorem test_values_register : agrees [
    ⟨0x2081B3, [(1, 0x7FFFFFFFFFFFFFFF), (2, 0x1)], [], [], 0x0, [.x 3 0x8000000000000000]⟩,
    ⟨0x402081B3, [(1, 0x0), (2, 0x1)], [], [], 0x0, [.x 3 0xFFFFFFFFFFFFFFFF]⟩,
    ⟨0x2091B3, [(1, 0x1), (2, 0x43)], [], [], 0x0, [.x 3 0x8]⟩,
    ⟨0x20A1B3, [(1, 0xFFFFFFFFFFFFFFFF), (2, 0x1)], [], [], 0x0, [.x 3 0x1]⟩,
    ⟨0x20B1B3, [(1, 0xFFFFFFFFFFFFFFFF), (2, 0x1)], [], [], 0x0, [.x 3 0x0]⟩,
    ⟨0x20C1B3, [(1, 0xFF00), (2, 0xFF0)], [], [], 0x0, [.x 3 0xF0F0]⟩,
    ⟨0x20D1B3, [(1, 0x8000000000000000), (2, 0x3F)], [], [], 0x0, [.x 3 0x1]⟩,
    ⟨0x4020D1B3, [(1, 0x8000000000000000), (2, 0x3F)], [], [], 0x0, [.x 3 0xFFFFFFFFFFFFFFFF]⟩,
    ⟨0x20E1B3, [(1, 0xFF00), (2, 0xFF0)], [], [], 0x0, [.x 3 0xFFF0]⟩,
    ⟨0x20F1B3, [(1, 0xFF00), (2, 0xFF0)], [], [], 0x0, [.x 3 0xF00]⟩] = true := by decide +kernel

theorem test_values_word : agrees [
    ⟨0x819B, [(1, 0x180000000)], [], [], 0x0, [.x 3 0xFFFFFFFF80000000]⟩,
    ⟨0x1F0D19B, [(1, 0xFFFFFFFF80000000)], [], [], 0x0, [.x 3 0x1]⟩,
    ⟨0x41F0D19B, [(1, 0x80000000)], [], [], 0x0, [.x 3 0xFFFFFFFFFFFFFFFF]⟩,
    ⟨0x2081BB, [(1, 0x7FFFFFFF), (2, 0x1)], [], [], 0x0, [.x 3 0xFFFFFFFF80000000]⟩,
    ⟨0x402081BB, [(1, 0xFFFFFFFF80000000), (2, 0x1)], [], [], 0x0, [.x 3 0x7FFFFFFF]⟩,
    ⟨0x2091BB, [(1, 0x40000000), (2, 0x21)], [], [], 0x0, [.x 3 0xFFFFFFFF80000000]⟩,
    ⟨0x20D1BB, [(1, 0xFFFFFFFF80000000), (2, 0x20)], [], [], 0x0, [.x 3 0xFFFFFFFF80000000]⟩,
    ⟨0x4020D1BB, [(1, 0x80000000), (2, 0x4)], [], [], 0x0, [.x 3 0xFFFFFFFFF8000000]⟩] = true := by decide +kernel

theorem test_values_multiply_divide : agrees [
    ⟨0x22081B3, [(1, 0xFFFFFFFFFFFFFFFF), (2, 0xFFFFFFFFFFFFFFFF)], [], [], 0x0, [.x 3 0x1]⟩,
    ⟨0x22091B3, [(1, 0xFFFFFFFFFFFFFFFF), (2, 0xFFFFFFFFFFFFFFFF)], [], [], 0x0, [.x 3 0x0]⟩,
    ⟨0x22091B3, [(1, 0x8000000000000000), (2, 0x8000000000000000)], [], [], 0x0, [.x 3 0x4000000000000000]⟩,
    ⟨0x220A1B3, [(1, 0xFFFFFFFFFFFFFFFF), (2, 0xFFFFFFFFFFFFFFFF)], [], [], 0x0, [.x 3 0xFFFFFFFFFFFFFFFF]⟩,
    ⟨0x220B1B3, [(1, 0xFFFFFFFFFFFFFFFF), (2, 0xFFFFFFFFFFFFFFFF)], [], [], 0x0, [.x 3 0xFFFFFFFFFFFFFFFE]⟩,
    ⟨0x220C1B3, [(1, 0xFFFFFFFFFFFFFFF9), (2, 0x2)], [], [], 0x0, [.x 3 0xFFFFFFFFFFFFFFFD]⟩,
    ⟨0x220D1B3, [(1, 0xFFFFFFFFFFFFFFFF), (2, 0x2)], [], [], 0x0, [.x 3 0x7FFFFFFFFFFFFFFF]⟩,
    ⟨0x220E1B3, [(1, 0xFFFFFFFFFFFFFFF9), (2, 0x2)], [], [], 0x0, [.x 3 0xFFFFFFFFFFFFFFFF]⟩,
    ⟨0x220E1B3, [(1, 0x7), (2, 0xFFFFFFFFFFFFFFFE)], [], [], 0x0, [.x 3 0x1]⟩,
    ⟨0x22081BB, [(1, 0x10000), (2, 0x10000)], [], [], 0x0, [.x 3 0x0]⟩,
    ⟨0x22081BB, [(1, 0xFFFF), (2, 0x8001)], [], [], 0x0, [.x 3 0xFFFFFFFF80007FFF]⟩,
    ⟨0x220C1BB, [(1, 0x2A), (2, 0x0)], [], [], 0x0, [.x 3 0xFFFFFFFFFFFFFFFF]⟩,
    ⟨0x220C1BB, [(1, 0x80000000), (2, 0xFFFFFFFF)], [], [], 0x0, [.x 3 0xFFFFFFFF80000000]⟩,
    ⟨0x220D1BB, [(1, 0x2A), (2, 0x0)], [], [], 0x0, [.x 3 0xFFFFFFFFFFFFFFFF]⟩,
    ⟨0x220D1BB, [(1, 0xFFFFFFFF), (2, 0x1)], [], [], 0x0, [.x 3 0xFFFFFFFFFFFFFFFF]⟩,
    ⟨0x220E1BB, [(1, 0x80000000), (2, 0xFFFFFFFF)], [], [], 0x0, [.x 3 0x0]⟩,
    ⟨0x220E1BB, [(1, 0x80000001), (2, 0x0)], [], [], 0x0, [.x 3 0xFFFFFFFF80000001]⟩,
    ⟨0x220F1BB, [(1, 0x80000001), (2, 0x0)], [], [], 0x0, [.x 3 0xFFFFFFFF80000001]⟩] = true := by decide +kernel

theorem test_values_transfer : agrees [
    ⟨0x8000EF, [], [], [], 0x0, [.pc 0x10008, .x 1 0x10004]⟩,
    ⟨0xFFDFF06F, [], [], [], 0x0, [.pc 0xFFFC]⟩,
    ⟨0x3280E7, [(5, 0x20000)], [], [], 0x0, [.pc 0x20002, .x 1 0x10004]⟩,
    ⟨0x282E7, [(5, 0x20000)], [], [], 0x0, [.pc 0x20000, .x 5 0x10004]⟩,
    ⟨0x208863, [(1, 0x5), (2, 0x5)], [], [], 0x0, [.pc 0x10010]⟩,
    ⟨0x208863, [(1, 0x5), (2, 0x6)], [], [], 0x0, [.pc 0x10004]⟩,
    ⟨0xFE209EE3, [(1, 0x5), (2, 0x6)], [], [], 0x0, [.pc 0xFFFC]⟩,
    ⟨0x20C463, [(1, 0xFFFFFFFFFFFFFFFF), (2, 0x1)], [], [], 0x0, [.pc 0x10008]⟩,
    ⟨0x20D463, [(1, 0x1), (2, 0x1)], [], [], 0x0, [.pc 0x10008]⟩,
    ⟨0x20E463, [(1, 0xFFFFFFFFFFFFFFFF), (2, 0x1)], [], [], 0x0, [.pc 0x10004]⟩,
    ⟨0x20F463, [(1, 0x0), (2, 0x1)], [], [], 0x0, [.pc 0x10004]⟩] = true := by decide +kernel

theorem test_values_load_store_fence : agrees [
    ⟨0x758603, [(0xB, 0x20000)], [], [(0x20000, 0xEF), (0x20001, 0xCD), (0x20002, 0xAB), (0x20003, 0x89), (0x20004, 0x67), (0x20005, 0x45), (0x20006, 0x23), (0x20007, 0x1)], 0x0, [.x 12 0x1]⟩,
    ⟨0x58603, [(0xB, 0x20000)], [], [(0x20000, 0xEF), (0x20001, 0xCD), (0x20002, 0xAB), (0x20003, 0x89), (0x20004, 0x67), (0x20005, 0x45), (0x20006, 0x23), (0x20007, 0x1)], 0x0, [.x 12 0xFFFFFFFFFFFFFFEF]⟩,
    ⟨0x59683, [(0xB, 0x20000)], [], [(0x20000, 0xEF), (0x20001, 0xCD), (0x20002, 0xAB), (0x20003, 0x89), (0x20004, 0x67), (0x20005, 0x45), (0x20006, 0x23), (0x20007, 0x1)], 0x0, [.x 13 0xFFFFFFFFFFFFCDEF]⟩,
    ⟨0x15A883, [(0xB, 0x20000)], [], [(0x20000, 0xEF), (0x20001, 0xCD), (0x20002, 0xAB), (0x20003, 0x89), (0x20004, 0x67), (0x20005, 0x45), (0x20006, 0x23), (0x20007, 0x1)], 0x0, [.x 17 0x6789ABCD]⟩,
    ⟨0x5A703, [(0xB, 0x20000)], [], [(0x20000, 0xEF), (0x20001, 0xCD), (0x20002, 0xAB), (0x20003, 0x89), (0x20004, 0x67), (0x20005, 0x45), (0x20006, 0x23), (0x20007, 0x1)], 0x0, [.x 14 0xFFFFFFFF89ABCDEF]⟩,
    ⟨0x5B803, [(0xB, 0x20000)], [], [(0x20000, 0xEF), (0x20001, 0xCD), (0x20002, 0xAB), (0x20003, 0x89), (0x20004, 0x67), (0x20005, 0x45), (0x20006, 0x23), (0x20007, 0x1)], 0x0, [.x 16 0x123456789ABCDEF]⟩,
    ⟨0x5B003, [(0xB, 0x20000)], [], [(0x20000, 0xEF), (0x20001, 0xCD), (0x20002, 0xAB), (0x20003, 0x89), (0x20004, 0x67), (0x20005, 0x45), (0x20006, 0x23), (0x20007, 0x1)], 0x0, []⟩,
    ⟨0x35C783, [(0xB, 0x20000)], [], [(0x20000, 0xEF), (0x20001, 0xCD), (0x20002, 0xAB), (0x20003, 0x89), (0x20004, 0x67), (0x20005, 0x45), (0x20006, 0x23), (0x20007, 0x1)], 0x0, [.x 15 0x89]⟩,
    ⟨0x5D683, [(0xB, 0x20000)], [], [(0x20000, 0xEF), (0x20001, 0xCD), (0x20002, 0xAB), (0x20003, 0x89), (0x20004, 0x67), (0x20005, 0x45), (0x20006, 0x23), (0x20007, 0x1)], 0x0, [.x 13 0xCDEF]⟩,
    ⟨0x45E703, [(0xB, 0x20000)], [], [(0x20000, 0xEF), (0x20001, 0xCD), (0x20002, 0xAB), (0x20003, 0x89), (0x20004, 0x67), (0x20005, 0x45), (0x20006, 0x23), (0x20007, 0x1)], 0x0, [.x 14 0x1234567]⟩,
    ⟨0xA58823, [(0xA, 0x123456789ABCDEF), (0xB, 0x20000)], [], [], 0x0, [.m 0x20010 0xEF, .m 0x20011 0x0, .m 0x20012 0x0, .m 0x20013 0x0, .m 0x20014 0x0, .m 0x20015 0x0, .m 0x20016 0x0, .m 0x20017 0x0]⟩,
    ⟨0xA59823, [(0xA, 0x123456789ABCDEF), (0xB, 0x20000)], [], [], 0x0, [.m 0x20010 0xEF, .m 0x20011 0xCD, .m 0x20012 0x0, .m 0x20013 0x0, .m 0x20014 0x0, .m 0x20015 0x0, .m 0x20016 0x0, .m 0x20017 0x0]⟩,
    ⟨0xA5A823, [(0xA, 0x123456789ABCDEF), (0xB, 0x20000)], [], [], 0x0, [.m 0x20010 0xEF, .m 0x20011 0xCD, .m 0x20012 0xAB, .m 0x20013 0x89, .m 0x20014 0x0, .m 0x20015 0x0, .m 0x20016 0x0, .m 0x20017 0x0]⟩,
    ⟨0xA5B823, [(0xA, 0x123456789ABCDEF), (0xB, 0x20000)], [], [], 0x0, [.m 0x20010 0xEF, .m 0x20011 0xCD, .m 0x20012 0xAB, .m 0x20013 0x89, .m 0x20014 0x67, .m 0x20015 0x45, .m 0x20016 0x23, .m 0x20017 0x1]⟩] = true := by decide +kernel

theorem test_values_csr_system : agrees [
    ⟨0x73, [], [], [], 0x0, [.halt .environmentCall 0x10000, .ic 0x1]⟩,
    ⟨0x100073, [], [], [], 0x0, [.halt .breakpoint 0x10000, .ic 0x1]⟩,
    ⟨0x3312F3, [(6, 0x1FF)], [], [], 0x61, [.x 5 0x61, .fcsr 0xFF]⟩,
    ⟨0x331073, [(6, 0xA5)], [], [], 0x0, [.fcsr 0xA5]⟩,
    ⟨0x1022F3, [], [], [], 0xFF, [.x 5 0x1F, .fcsr 0xFF]⟩,
    ⟨0x2322F3, [(6, 0xFFFFFFFFFFFFFFFF)], [], [], 0x1, [.x 5 0x0, .fcsr 0xE1]⟩,
    ⟨0x133073, [(6, 0x11)], [], [], 0xFF, [.fcsr 0xEE]⟩,
    ⟨0x3332F3, [(6, 0xE0)], [], [], 0xFF, [.x 5 0xFF, .fcsr 0x1F]⟩,
    ⟨0x23D2F3, [], [], [], 0x21, [.x 5 0x1, .fcsr 0xE1]⟩,
    ⟨0x1FD2F3, [], [], [], 0x40, [.x 5 0x0, .fcsr 0x5F]⟩,
    ⟨0x1062F3, [], [], [], 0x5, [.x 5 0x5, .fcsr 0x5]⟩,
    ⟨0x3862F3, [], [], [], 0x5, [.x 5 0x5, .fcsr 0x15]⟩,
    ⟨0x3FF073, [], [], [], 0xFF, [.fcsr 0xE0]⟩] = true := by decide +kernel

theorem test_values_atomic_word : agrees [
    ⟨0x87322AF, [(6, 0x20000), (7, 0x2222222200000005)], [], [(0x20000, 0x1), (0x20001, 0x0), (0x20002, 0x0), (0x20003, 0x80), (0x20004, 0x11), (0x20005, 0x11), (0x20006, 0x11), (0x20007, 0x11)], 0x0, [.x 5 0xFFFFFFFF80000001, .m 0x20000 0x5, .m 0x20001 0x0, .m 0x20002 0x0, .m 0x20003 0x0, .m 0x20004 0x11, .m 0x20005 0x11, .m 0x20006 0x11, .m 0x20007 0x11]⟩,
    ⟨0x7322AF, [(6, 0x20000), (7, 0x1)], [], [(0x20000, 0xFF), (0x20001, 0xFF), (0x20002, 0xFF), (0x20003, 0xFF), (0x20004, 0x11), (0x20005, 0x11), (0x20006, 0x11), (0x20007, 0x11)], 0x0, [.x 5 0xFFFFFFFFFFFFFFFF, .m 0x20000 0x0, .m 0x20001 0x0, .m 0x20002 0x0, .m 0x20003 0x0, .m 0x20004 0x11, .m 0x20005 0x11, .m 0x20006 0x11, .m 0x20007 0x11]⟩,
    ⟨0x207322AF, [(6, 0x20000), (7, 0xFF00FF0)], [], [(0x20000, 0x0), (0x20001, 0xFF), (0x20002, 0x0), (0x20003, 0xFF), (0x20004, 0x0), (0x20005, 0x0), (0x20006, 0x0), (0x20007, 0x0)], 0x0, [.x 5 0xFFFFFFFFFF00FF00, .m 0x20000 0xF0, .m 0x20001 0xF0, .m 0x20002 0xF0, .m 0x20003 0xF0, .m 0x20004 0x0, .m 0x20005 0x0, .m 0x20006 0x0, .m 0x20007 0x0]⟩,
    ⟨0x607322AF, [(6, 0x20000), (7, 0xFF00FF0)], [], [(0x20000, 0x0), (0x20001, 0xFF), (0x20002, 0x0), (0x20003, 0xFF), (0x20004, 0x0), (0x20005, 0x0), (0x20006, 0x0), (0x20007, 0x0)], 0x0, [.x 5 0xFFFFFFFFFF00FF00, .m 0x20000 0x0, .m 0x20001 0xF, .m 0x20002 0x0, .m 0x20003 0xF, .m 0x20004 0x0, .m 0x20005 0x0, .m 0x20006 0x0, .m 0x20007 0x0]⟩,
    ⟨0x407322AF, [(6, 0x20000), (7, 0xFF00FF0)], [], [(0x20000, 0x0), (0x20001, 0xFF), (0x20002, 0x0), (0x20003, 0xFF), (0x20004, 0x0), (0x20005, 0x0), (0x20006, 0x0), (0x20007, 0x0)], 0x0, [.x 5 0xFFFFFFFFFF00FF00, .m 0x20000 0xF0, .m 0x20001 0xFF, .m 0x20002 0xF0, .m 0x20003 0xFF, .m 0x20004 0x0, .m 0x20005 0x0, .m 0x20006 0x0, .m 0x20007 0x0]⟩,
    ⟨0x807322AF, [(6, 0x20000), (7, 0x1)], [], [(0x20000, 0x0), (0x20001, 0x0), (0x20002, 0x0), (0x20003, 0x80), (0x20004, 0x0), (0x20005, 0x0), (0x20006, 0x0), (0x20007, 0x0)], 0x0, [.x 5 0xFFFFFFFF80000000, .m 0x20000 0x0, .m 0x20001 0x0, .m 0x20002 0x0, .m 0x20003 0x80, .m 0x20004 0x0, .m 0x20005 0x0, .m 0x20006 0x0, .m 0x20007 0x0]⟩,
    ⟨0xA07322AF, [(6, 0x20000), (7, 0x1)], [], [(0x20000, 0x0), (0x20001, 0x0), (0x20002, 0x0), (0x20003, 0x80), (0x20004, 0x0), (0x20005, 0x0), (0x20006, 0x0), (0x20007, 0x0)], 0x0, [.x 5 0xFFFFFFFF80000000, .m 0x20000 0x1, .m 0x20001 0x0, .m 0x20002 0x0, .m 0x20003 0x0, .m 0x20004 0x0, .m 0x20005 0x0, .m 0x20006 0x0, .m 0x20007 0x0]⟩,
    ⟨0xC07322AF, [(6, 0x20000), (7, 0x1)], [], [(0x20000, 0x0), (0x20001, 0x0), (0x20002, 0x0), (0x20003, 0x80), (0x20004, 0x0), (0x20005, 0x0), (0x20006, 0x0), (0x20007, 0x0)], 0x0, [.x 5 0xFFFFFFFF80000000, .m 0x20000 0x1, .m 0x20001 0x0, .m 0x20002 0x0, .m 0x20003 0x0, .m 0x20004 0x0, .m 0x20005 0x0, .m 0x20006 0x0, .m 0x20007 0x0]⟩,
    ⟨0xE07322AF, [(6, 0x20000), (7, 0x1)], [], [(0x20000, 0x0), (0x20001, 0x0), (0x20002, 0x0), (0x20003, 0x80), (0x20004, 0x0), (0x20005, 0x0), (0x20006, 0x0), (0x20007, 0x0)], 0x0, [.x 5 0xFFFFFFFF80000000, .m 0x20000 0x0, .m 0x20001 0x0, .m 0x20002 0x0, .m 0x20003 0x80, .m 0x20004 0x0, .m 0x20005 0x0, .m 0x20006 0x0, .m 0x20007 0x0]⟩] = true := by decide +kernel

theorem test_values_atomic_doubleword : agrees [
    ⟨0x87332AF, [(6, 0x20000), (7, 0x2222222200000005)], [], [(0x20000, 0x1), (0x20001, 0x0), (0x20002, 0x0), (0x20003, 0x80), (0x20004, 0x11), (0x20005, 0x11), (0x20006, 0x11), (0x20007, 0x11)], 0x0, [.x 5 0x1111111180000001, .m 0x20000 0x5, .m 0x20001 0x0, .m 0x20002 0x0, .m 0x20003 0x0, .m 0x20004 0x22, .m 0x20005 0x22, .m 0x20006 0x22, .m 0x20007 0x22]⟩,
    ⟨0x7332AF, [(6, 0x20000), (7, 0x1)], [], [(0x20000, 0xFF), (0x20001, 0xFF), (0x20002, 0xFF), (0x20003, 0xFF), (0x20004, 0xFF), (0x20005, 0xFF), (0x20006, 0xFF), (0x20007, 0xFF)], 0x0, [.x 5 0xFFFFFFFFFFFFFFFF, .m 0x20000 0x0, .m 0x20001 0x0, .m 0x20002 0x0, .m 0x20003 0x0, .m 0x20004 0x0, .m 0x20005 0x0, .m 0x20006 0x0, .m 0x20007 0x0]⟩,
    ⟨0x207332AF, [(6, 0x20000), (7, 0xFF00FF00FF00FF0)], [], [(0x20000, 0x0), (0x20001, 0xFF), (0x20002, 0x0), (0x20003, 0xFF), (0x20004, 0x0), (0x20005, 0xFF), (0x20006, 0x0), (0x20007, 0xFF)], 0x0, [.x 5 0xFF00FF00FF00FF00, .m 0x20000 0xF0, .m 0x20001 0xF0, .m 0x20002 0xF0, .m 0x20003 0xF0, .m 0x20004 0xF0, .m 0x20005 0xF0, .m 0x20006 0xF0, .m 0x20007 0xF0]⟩,
    ⟨0x607332AF, [(6, 0x20000), (7, 0xFF00FF00FF00FF0)], [], [(0x20000, 0x0), (0x20001, 0xFF), (0x20002, 0x0), (0x20003, 0xFF), (0x20004, 0x0), (0x20005, 0xFF), (0x20006, 0x0), (0x20007, 0xFF)], 0x0, [.x 5 0xFF00FF00FF00FF00, .m 0x20000 0x0, .m 0x20001 0xF, .m 0x20002 0x0, .m 0x20003 0xF, .m 0x20004 0x0, .m 0x20005 0xF, .m 0x20006 0x0, .m 0x20007 0xF]⟩,
    ⟨0x407332AF, [(6, 0x20000), (7, 0xFF00FF00FF00FF0)], [], [(0x20000, 0x0), (0x20001, 0xFF), (0x20002, 0x0), (0x20003, 0xFF), (0x20004, 0x0), (0x20005, 0xFF), (0x20006, 0x0), (0x20007, 0xFF)], 0x0, [.x 5 0xFF00FF00FF00FF00, .m 0x20000 0xF0, .m 0x20001 0xFF, .m 0x20002 0xF0, .m 0x20003 0xFF, .m 0x20004 0xF0, .m 0x20005 0xFF, .m 0x20006 0xF0, .m 0x20007 0xFF]⟩,
    ⟨0x807332AF, [(6, 0x20000), (7, 0x1)], [], [(0x20000, 0x0), (0x20001, 0x0), (0x20002, 0x0), (0x20003, 0x0), (0x20004, 0x0), (0x20005, 0x0), (0x20006, 0x0), (0x20007, 0x80)], 0x0, [.x 5 0x8000000000000000, .m 0x20000 0x0, .m 0x20001 0x0, .m 0x20002 0x0, .m 0x20003 0x0, .m 0x20004 0x0, .m 0x20005 0x0, .m 0x20006 0x0, .m 0x20007 0x80]⟩,
    ⟨0xA07332AF, [(6, 0x20000), (7, 0x1)], [], [(0x20000, 0x0), (0x20001, 0x0), (0x20002, 0x0), (0x20003, 0x0), (0x20004, 0x0), (0x20005, 0x0), (0x20006, 0x0), (0x20007, 0x80)], 0x0, [.x 5 0x8000000000000000, .m 0x20000 0x1, .m 0x20001 0x0, .m 0x20002 0x0, .m 0x20003 0x0, .m 0x20004 0x0, .m 0x20005 0x0, .m 0x20006 0x0, .m 0x20007 0x0]⟩,
    ⟨0xC07332AF, [(6, 0x20000), (7, 0x1)], [], [(0x20000, 0x0), (0x20001, 0x0), (0x20002, 0x0), (0x20003, 0x0), (0x20004, 0x0), (0x20005, 0x0), (0x20006, 0x0), (0x20007, 0x80)], 0x0, [.x 5 0x8000000000000000, .m 0x20000 0x1, .m 0x20001 0x0, .m 0x20002 0x0, .m 0x20003 0x0, .m 0x20004 0x0, .m 0x20005 0x0, .m 0x20006 0x0, .m 0x20007 0x0]⟩,
    ⟨0xE07332AF, [(6, 0x20000), (7, 0x1)], [], [(0x20000, 0x0), (0x20001, 0x0), (0x20002, 0x0), (0x20003, 0x0), (0x20004, 0x0), (0x20005, 0x0), (0x20006, 0x0), (0x20007, 0x80)], 0x0, [.x 5 0x8000000000000000, .m 0x20000 0x0, .m 0x20001 0x0, .m 0x20002 0x0, .m 0x20003 0x0, .m 0x20004 0x0, .m 0x20005 0x0, .m 0x20006 0x0, .m 0x20007 0x80]⟩] = true := by decide +kernel

theorem test_values_single_arithmetic : agrees [
    ⟨0x80A187, [(1, 0x20000)], [], [(0x20008, 0x0), (0x20009, 0x0), (0x2000A, 0x80), (0x2000B, 0x3F)], 0x0, [.f 3 0xFFFFFFFF3F800000]⟩,
    ⟨0x20A427, [(1, 0x20000)], [(2, 0x123456789ABCDEF0)], [], 0x0, [.m 0x20008 0xF0, .m 0x20009 0xDE, .m 0x2000A 0xBC, .m 0x2000B 0x9A, .m 0x2000C 0x0]⟩,
    ⟨0x18208243, [], [(1, 0xFFFFFFFF3F800800), (2, 0xFFFFFFFF3F800800), (3, 0xFFFFFFFFBF801000)], [], 0x0, [.f 4 0xFFFFFFFF33800000, .fcsr 0x0]⟩,
    ⟨0x18208243, [], [(1, 0xFFFFFFFF3F800001), (2, 0xFFFFFFFF3F800001), (3, 0xFFFFFFFFBF800000)], [], 0x0, [.f 4 0xFFFFFFFF34800000, .fcsr 0x1]⟩,
    ⟨0x18208247, [], [(1, 0xFFFFFFFF40000000), (2, 0xFFFFFFFF40400000), (3, 0xFFFFFFFF3F800000)], [], 0x0, [.f 4 0xFFFFFFFF40A00000, .fcsr 0x0]⟩,
    ⟨0x1820824B, [], [(1, 0xFFFFFFFF40000000), (2, 0xFFFFFFFF40400000), (3, 0xFFFFFFFF3F800000)], [], 0x0, [.f 4 0xFFFFFFFFC0A00000, .fcsr 0x0]⟩,
    ⟨0x1820824F, [], [(1, 0xFFFFFFFF40000000), (2, 0xFFFFFFFF40400000), (3, 0xFFFFFFFF3F800000)], [], 0x0, [.f 4 0xFFFFFFFFC0E00000, .fcsr 0x0]⟩,
    ⟨0x1820824F, [], [(1, 0xFFFFFFFF00000000), (2, 0xFFFFFFFF3F800000), (3, 0xFFFFFFFF00000000)], [], 0x0, [.f 4 0xFFFFFFFF80000000, .fcsr 0x0]⟩,
    ⟨0x2081D3, [], [(1, 0xFFFFFFFF3F800000), (2, 0xFFFFFFFF33800000)], [], 0x0, [.f 3 0xFFFFFFFF3F800000, .fcsr 0x1]⟩,
    ⟨0x20B1D3, [], [(1, 0xFFFFFFFF3F800000), (2, 0xFFFFFFFF33800000)], [], 0x0, [.f 3 0xFFFFFFFF3F800001, .fcsr 0x1]⟩,
    ⟨0x82081D3, [], [(1, 0xFFFFFFFF3FC00000), (2, 0xFFFFFFFF3FC00000)], [], 0x0, [.f 3 0xFFFFFFFF00000000, .fcsr 0x0]⟩,
    ⟨0x820A1D3, [], [(1, 0xFFFFFFFF3FC00000), (2, 0xFFFFFFFF3FC00000)], [], 0x0, [.f 3 0xFFFFFFFF80000000, .fcsr 0x0]⟩,
    ⟨0x102081D3, [], [(1, 0xFFFFFFFF00000000), (2, 0xFFFFFFFF7F800000)], [], 0x0, [.f 3 0xFFFFFFFF7FC00000, .fcsr 0x10]⟩,
    ⟨0x102081D3, [], [(1, 0xFFFFFFFF00800001), (2, 0xFFFFFFFF3F000000)], [], 0x0, [.f 3 0xFFFFFFFF00400000, .fcsr 0x3]⟩,
    ⟨0x182081D3, [], [(1, 0xFFFFFFFF3F800000), (2, 0xFFFFFFFF40400000)], [], 0x0, [.f 3 0xFFFFFFFF3EAAAAAB, .fcsr 0x1]⟩,
    ⟨0x182091D3, [], [(1, 0xFFFFFFFF3F800000), (2, 0xFFFFFFFF40400000)], [], 0x0, [.f 3 0xFFFFFFFF3EAAAAAA, .fcsr 0x1]⟩,
    ⟨0x580081D3, [], [(1, 0xFFFFFFFF40000000)], [], 0x0, [.f 3 0xFFFFFFFF3FB504F3, .fcsr 0x1]⟩,
    ⟨0x5800B1D3, [], [(1, 0xFFFFFFFF40000000)], [], 0x0, [.f 3 0xFFFFFFFF3FB504F4, .fcsr 0x1]⟩,
    ⟨0x202081D3, [], [(1, 0xFFFFFFFF3F800000), (2, 0xFFFFFFFF80000000)], [], 0x0, [.fcsr 0x0, .f 3 0xFFFFFFFFBF800000]⟩,
    ⟨0x202081D3, [], [(1, 0xFFFFFFFF7F800001), (2, 0xFFFFFFFFBF800000)], [], 0x0, [.fcsr 0x0, .f 3 0xFFFFFFFFFF800001]⟩,
    ⟨0x202091D3, [], [(1, 0xFFFFFFFF3F800000), (2, 0xFFFFFFFF80000000)], [], 0x0, [.fcsr 0x0, .f 3 0xFFFFFFFF3F800000]⟩,
    ⟨0x2010A1D3, [], [(1, 0xFFFFFFFFBF800000)], [], 0x0, [.fcsr 0x0, .f 3 0xFFFFFFFF3F800000]⟩,
    ⟨0x282081D3, [], [(1, 0xFFFFFFFF80000000), (2, 0xFFFFFFFF00000000)], [], 0x0, [.fcsr 0x0, .f 3 0xFFFFFFFF80000000]⟩,
    ⟨0x282081D3, [], [(1, 0xFFFFFFFF7FC00000), (2, 0xFFFFFFFF3F800000)], [], 0x0, [.fcsr 0x0, .f 3 0xFFFFFFFF3F800000]⟩,
    ⟨0x282091D3, [], [(1, 0xFFFFFFFF80000000), (2, 0xFFFFFFFF00000000)], [], 0x0, [.fcsr 0x0, .f 3 0xFFFFFFFF00000000]⟩,
    ⟨0x282091D3, [], [(1, 0xFFFFFFFF7FC00001), (2, 0xFFFFFFFFFFC00000)], [], 0x0, [.fcsr 0x0, .f 3 0xFFFFFFFF7FC00000]⟩] = true := by decide +kernel

theorem test_values_single_other : agrees [
    ⟨0xA02081D3, [], [(1, 0xFFFFFFFF00000000), (2, 0xFFFFFFFF80000000)], [], 0x0, [.fcsr 0x0, .x 3 0x1]⟩,
    ⟨0xA02081D3, [], [(1, 0xFFFFFFFF3F800000), (2, 0xFFFFFFFF7FC00000)], [], 0x0, [.fcsr 0x10, .x 3 0x0]⟩,
    ⟨0xA02091D3, [], [(1, 0xFFFFFFFF80000000), (2, 0xFFFFFFFF00000000)], [], 0x0, [.fcsr 0x0, .x 3 0x0]⟩,
    ⟨0xA02091D3, [], [(1, 0xFFFFFFFF7FC00000), (2, 0xFFFFFFFF3F800000)], [], 0x0, [.fcsr 0x10, .x 3 0x0]⟩,
    ⟨0xA020A1D3, [], [(1, 0xFFFFFFFF3F800000), (2, 0xFFFFFFFF3F800000)], [], 0x0, [.fcsr 0x0, .x 3 0x1]⟩,
    ⟨0xA020A1D3, [], [(1, 0xFFFFFFFF00000000), (2, 0xFFFFFFFF80000000)], [], 0x0, [.fcsr 0x0, .x 3 0x1]⟩,
    ⟨0xC00081D3, [], [(1, 0xFFFFFFFF7FC00000)], [], 0x0, [.x 3 0x7FFFFFFF, .fcsr 0x10]⟩,
    ⟨0xC00081D3, [], [(1, 0xFFFFFFFFFF800000)], [], 0x0, [.x 3 0xFFFFFFFF80000000, .fcsr 0x10]⟩,
    ⟨0xD00081D3, [(1, 0xFFFFFFFF)], [], [], 0x0, [.f 3 0xFFFFFFFFBF800000, .fcsr 0x0]⟩,
    ⟨0xD00081D3, [(1, 0x101000001)], [], [], 0x0, [.f 3 0xFFFFFFFF4B800000, .fcsr 0x1]⟩,
    ⟨0xC01081D3, [], [(1, 0xFFFFFFFFBF800000)], [], 0x0, [.x 3 0x0, .fcsr 0x14]⟩,
    ⟨0xC01081D3, [], [(1, 0xFFFFFFFFBECCCCCD)], [], 0x0, [.x 3 0x0, .fcsr 0x1]⟩,
    ⟨0xD01081D3, [(1, 0xFFFFFFFFFFFFFFFF)], [], [], 0x0, [.f 3 0xFFFFFFFF4F800000, .fcsr 0x1]⟩,
    ⟨0xD01091D3, [(1, 0xFFFFFFFF)], [], [], 0x0, [.f 3 0xFFFFFFFF4F7FFFFF, .fcsr 0x1]⟩,
    ⟨0xC02081D3, [], [(1, 0xFFFFFFFF5F000000)], [], 0x0, [.x 3 0x7FFFFFFFFFFFFFFF, .fcsr 0x14]⟩,
    ⟨0xC02081D3, [], [(1, 0xFFFFFFFFC0400000)], [], 0x0, [.x 3 0xFFFFFFFFFFFFFFFD, .fcsr 0x0]⟩,
    ⟨0xD02081D3, [(1, 0x7FFFFFFFFFFFFFFF)], [], [], 0x0, [.f 3 0xFFFFFFFF5F000000, .fcsr 0x1]⟩,
    ⟨0xD02081D3, [(1, 0x8000000000000000)], [], [], 0x0, [.f 3 0xFFFFFFFFDF000000, .fcsr 0x0]⟩,
    ⟨0xC03081D3, [], [(1, 0xFFFFFFFF7F800000)], [], 0x0, [.x 3 0xFFFFFFFFFFFFFFFF, .fcsr 0x10]⟩,
    ⟨0xC030B1D3, [], [(1, 0xFFFFFFFF3F000000)], [], 0x0, [.x 3 0x1, .fcsr 0x1]⟩,
    ⟨0xD03081D3, [(1, 0xFFFFFFFFFFFFFFFF)], [], [], 0x0, [.f 3 0xFFFFFFFF5F800000, .fcsr 0x1]⟩,
    ⟨0xD03091D3, [(1, 0xFFFFFFFFFFFFFFFF)], [], [], 0x0, [.f 3 0xFFFFFFFF5F7FFFFF, .fcsr 0x1]⟩,
    ⟨0xE00081D3, [], [(1, 0x1234567880000001)], [], 0x0, [.fcsr 0x0, .x 3 0xFFFFFFFF80000001]⟩,
    ⟨0xE00091D3, [], [(1, 0xFFFFFFFFFF800000)], [], 0x0, [.x 3 0x1, .fcsr 0x0]⟩,
    ⟨0xE00091D3, [], [(1, 0xFFFFFFFFBF800000)], [], 0x0, [.x 3 0x2, .fcsr 0x0]⟩,
    ⟨0xF00081D3, [(1, 0xAAAAAAAA3F800000)], [], [], 0x0, [.fcsr 0x0, .f 3 0xFFFFFFFF3F800000]⟩] = true := by decide +kernel

theorem test_values_double_arithmetic : agrees [
    ⟨0xFF80B187, [(1, 0x20008)], [], [(0x20000, 0xEF), (0x20001, 0xBE), (0x20002, 0xAD), (0x20003, 0xDE), (0x20004, 0xD), (0x20005, 0xF0), (0x20006, 0xFE), (0x20007, 0xCA)], 0x0, [.f 3 0xCAFEF00DDEADBEEF]⟩,
    ⟨0x20B827, [(1, 0x20000)], [(2, 0xCAFEF00DDEADBEEF)], [], 0x0, [.m 0x20010 0xEF, .m 0x20011 0xBE, .m 0x20012 0xAD, .m 0x20013 0xDE, .m 0x20014 0xD, .m 0x20015 0xF0, .m 0x20016 0xFE, .m 0x20017 0xCA]⟩,
    ⟨0x1A208243, [], [(1, 0x3FF0000000000001), (2, 0x3FF0000000000001), (3, 0xBFF0000000000000)], [], 0x0, [.f 4 0x3CC0000000000000, .fcsr 0x1]⟩,
    ⟨0x1A208243, [], [(1, 0x7FF0000000000000), (2, 0x0), (3, 0x7FF8000000000000)], [], 0x0, [.f 4 0x7FF8000000000000, .fcsr 0x10]⟩,
    ⟨0x1A208247, [], [(1, 0x4000000000000000), (2, 0x4008000000000000), (3, 0x3FF0000000000000)], [], 0x0, [.f 4 0x4014000000000000, .fcsr 0x0]⟩,
    ⟨0x1A20824B, [], [(1, 0x4000000000000000), (2, 0x4008000000000000), (3, 0x3FF0000000000000)], [], 0x0, [.f 4 0xC014000000000000, .fcsr 0x0]⟩,
    ⟨0x1A20824F, [], [(1, 0x4000000000000000), (2, 0x4008000000000000), (3, 0x3FF0000000000000)], [], 0x0, [.f 4 0xC01C000000000000, .fcsr 0x0]⟩,
    ⟨0x22081D3, [], [(1, 0x3FB999999999999A), (2, 0x3FC999999999999A)], [], 0x0, [.f 3 0x3FD3333333333334, .fcsr 0x1]⟩,
    ⟨0x220A1D3, [], [(1, 0x7FEFFFFFFFFFFFFF), (2, 0x7FEFFFFFFFFFFFFF)], [], 0x0, [.f 3 0x7FEFFFFFFFFFFFFF, .fcsr 0x5]⟩,
    ⟨0x122081D3, [], [(1, 0x10000000000000), (2, 0x3FE0000000000000)], [], 0x0, [.f 3 0x8000000000000, .fcsr 0x0]⟩,
    ⟨0x122081D3, [], [(1, 0x10000000000001), (2, 0x3FE0000000000000)], [], 0x0, [.f 3 0x8000000000000, .fcsr 0x3]⟩,
    ⟨0x1A2081D3, [], [(1, 0x3FF0000000000000), (2, 0x4008000000000000)], [], 0x0, [.f 3 0x3FD5555555555555, .fcsr 0x1]⟩,
    ⟨0x1A20B1D3, [], [(1, 0x3FF0000000000000), (2, 0x4008000000000000)], [], 0x0, [.f 3 0x3FD5555555555556, .fcsr 0x1]⟩,
    ⟨0x5A0081D3, [], [(1, 0x4000000000000000)], [], 0x0, [.f 3 0x3FF6A09E667F3BCD, .fcsr 0x1]⟩,
    ⟨0x5A0091D3, [], [(1, 0x4000000000000000)], [], 0x0, [.f 3 0x3FF6A09E667F3BCC, .fcsr 0x1]⟩,
    ⟨0x222081D3, [], [(1, 0x7FF0000000000001), (2, 0x8000000000000000)], [], 0x0, [.fcsr 0x0, .f 3 0xFFF0000000000001]⟩,
    ⟨0x221091D3, [], [(1, 0x0)], [], 0x0, [.fcsr 0x0, .f 3 0x8000000000000000]⟩,
    ⟨0x2A2081D3, [], [(1, 0x7FF0000000000001), (2, 0x7FF8000000000000)], [], 0x0, [.fcsr 0x10, .f 3 0x7FF8000000000000]⟩,
    ⟨0x2A2091D3, [], [(1, 0xFFF0000000000000), (2, 0x4014000000000000)], [], 0x0, [.fcsr 0x0, .f 3 0x4014000000000000]⟩] = true := by decide +kernel

theorem test_values_double_other : agrees [
    ⟨0xA22081D3, [], [(1, 0x7FF8000000000000), (2, 0x3FF0000000000000)], [], 0x0, [.fcsr 0x10, .x 3 0x0]⟩,
    ⟨0xA22091D3, [], [(1, 0xFFF0000000000000), (2, 0x7FF0000000000000)], [], 0x0, [.fcsr 0x0, .x 3 0x1]⟩,
    ⟨0xA220A1D3, [], [(1, 0x7FF0000000000001), (2, 0x3FF0000000000000)], [], 0x0, [.fcsr 0x10, .x 3 0x0]⟩,
    ⟨0xC20081D3, [], [(1, 0x41DFFFFFFFE00000)], [], 0x0, [.x 3 0x7FFFFFFF, .fcsr 0x14]⟩,
    ⟨0xC20091D3, [], [(1, 0x41DFFFFFFFD9999A)], [], 0x0, [.x 3 0x7FFFFFFF, .fcsr 0x1]⟩,
    ⟨0xD20081D3, [(1, 0x80000000)], [], [], 0x0, [.f 3 0xC1E0000000000000, .fcsr 0x0]⟩,
    ⟨0xC21081D3, [], [(1, 0x41EFFFFFFFE00000)], [], 0x0, [.x 3 0xFFFFFFFFFFFFFFFF, .fcsr 0x0]⟩,
    ⟨0xD21081D3, [(1, 0x80000000)], [], [], 0x0, [.f 3 0x41E0000000000000, .fcsr 0x0]⟩,
    ⟨0xC22081D3, [], [(1, 0x4004000000000000)], [], 0x0, [.x 3 0x2, .fcsr 0x1]⟩,
    ⟨0xC220C1D3, [], [(1, 0x4004000000000000)], [], 0x0, [.x 3 0x3, .fcsr 0x1]⟩,
    ⟨0xD22081D3, [(1, 0x7FFFFFFFFFFFFFFF)], [], [], 0x0, [.f 3 0x43E0000000000000, .fcsr 0x1]⟩,
    ⟨0xD22091D3, [(1, 0x7FFFFFFFFFFFFFFF)], [], [], 0x0, [.f 3 0x43DFFFFFFFFFFFFF, .fcsr 0x1]⟩,
    ⟨0xC23081D3, [], [(1, 0x43F0000000000000)], [], 0x0, [.x 3 0xFFFFFFFFFFFFFFFF, .fcsr 0x14]⟩,
    ⟨0xC23081D3, [], [(1, 0x43EFFFFFFFFFFFFF)], [], 0x0, [.x 3 0xFFFFFFFFFFFFF800, .fcsr 0x0]⟩,
    ⟨0xD23081D3, [(1, 0xFFFFFFFFFFFFFFFF)], [], [], 0x0, [.f 3 0x43F0000000000000, .fcsr 0x1]⟩,
    ⟨0xD230A1D3, [(1, 0xFFFFFFFFFFFFFFFF)], [], [], 0x0, [.f 3 0x43EFFFFFFFFFFFFF, .fcsr 0x1]⟩,
    ⟨0xE20081D3, [], [(1, 0x7FF0000000000001)], [], 0x0, [.fcsr 0x0, .x 3 0x7FF0000000000001]⟩,
    ⟨0xE20091D3, [], [(1, 0xFFFFFFFFFFFFF)], [], 0x0, [.x 3 0x20, .fcsr 0x0]⟩,
    ⟨0xE20091D3, [], [(1, 0x7FF0000000000001)], [], 0x0, [.x 3 0x100, .fcsr 0x0]⟩,
    ⟨0xF20081D3, [(1, 0x8000000000000000)], [], [], 0x0, [.fcsr 0x0, .f 3 0x8000000000000000]⟩,
    ⟨0x401081D3, [], [(1, 0x3FF0000000000000)], [], 0x0, [.f 3 0xFFFFFFFF3F800000, .fcsr 0x0]⟩,
    ⟨0x401081D3, [], [(1, 0x3FB999999999999A)], [], 0x0, [.f 3 0xFFFFFFFF3DCCCCCD, .fcsr 0x1]⟩,
    ⟨0x420081D3, [], [(1, 0xFFFFFFFF3F800000)], [], 0x0, [.f 3 0x3FF0000000000000, .fcsr 0x0]⟩,
    ⟨0x420081D3, [], [(1, 0xFFFFFFFF3DCCCCCD)], [], 0x0, [.f 3 0x3FB99999A0000000, .fcsr 0x0]⟩] = true := by decide +kernel

theorem test_values_compressed_quadrant01 : agrees [
    ⟨0x800, [(2, 0x7000)], [], [], 0x0, [.pc 0x10002, .x 8 0x7010]⟩,
    ⟨0x2480, [(9, 0x20000)], [], [(0x20008, 0xEF), (0x20009, 0xBE), (0x2000A, 0xAD), (0x2000B, 0xDE), (0x2000C, 0xD), (0x2000D, 0xF0), (0x2000E, 0xFE), (0x2000F, 0xCA)], 0x0, [.pc 0x10002, .f 8 0xCAFEF00DDEADBEEF]⟩,
    ⟨0x41C8, [(0xB, 0x20000)], [], [(0x20004, 0x67), (0x20005, 0x45), (0x20006, 0x23), (0x20007, 0x1)], 0x0, [.pc 0x10002, .x 10 0x1234567]⟩,
    ⟨0x6588, [(0xB, 0x20000)], [], [(0x20008, 0xEF), (0x20009, 0xBE), (0x2000A, 0xAD), (0x2000B, 0xDE), (0x2000C, 0xD), (0x2000D, 0xF0), (0x2000E, 0xFE), (0x2000F, 0xCA)], 0x0, [.pc 0x10002, .x 10 0xCAFEF00DDEADBEEF]⟩,
    ⟨0xA480, [(9, 0x20000)], [(8, 0xCAFEF00DDEADBEEF)], [], 0x0, [.pc 0x10002, .m 0x20008 0xEF, .m 0x20009 0xBE, .m 0x2000A 0xAD, .m 0x2000B 0xDE, .m 0x2000C 0xD, .m 0x2000D 0xF0, .m 0x2000E 0xFE, .m 0x2000F 0xCA]⟩,
    ⟨0xC1C8, [(0xA, 0xAABBCCDD11223344), (0xB, 0x20000)], [], [], 0x0, [.pc 0x10002, .m 0x20004 0x44, .m 0x20005 0x33, .m 0x20006 0x22, .m 0x20007 0x11]⟩,
    ⟨0xE588, [(0xA, 0xCAFEF00DDEADBEEF), (0xB, 0x20000)], [], [], 0x0, [.pc 0x10002, .m 0x20008 0xEF, .m 0x20009 0xBE, .m 0x2000A 0xAD, .m 0x2000B 0xDE, .m 0x2000C 0xD, .m 0x2000D 0xF0, .m 0x2000E 0xFE, .m 0x2000F 0xCA]⟩,
    ⟨0x1, [], [], [], 0x0, [.pc 0x10002]⟩,
    ⟨0x157D, [(0xA, 0x0)], [], [], 0x0, [.pc 0x10002, .x 10 0xFFFFFFFFFFFFFFFF]⟩,
    ⟨0x2505, [(0xA, 0x7FFFFFFF)], [], [], 0x0, [.pc 0x10002, .x 10 0xFFFFFFFF80000000]⟩,
    ⟨0x5501, [], [], [], 0x0, [.pc 0x10002, .x 10 0xFFFFFFFFFFFFFFE0]⟩,
    ⟨0x7139, [(2, 0x7000)], [], [], 0x0, [.pc 0x10002, .x 2 0x6FC0]⟩,
    ⟨0x6505, [], [], [], 0x0, [.pc 0x10002, .x 10 0x1000]⟩,
    ⟨0x8111, [(0xA, 0x100)], [], [], 0x0, [.pc 0x10002, .x 10 0x10]⟩,
    ⟨0x8511, [(0xA, 0x8000000000000000)], [], [], 0x0, [.pc 0x10002, .x 10 0xF800000000000000]⟩,
    ⟨0x9941, [(0xA, 0x1237)], [], [], 0x0, [.pc 0x10002, .x 10 0x1230]⟩,
    ⟨0x8D0D, [(0xA, 0x5), (0xB, 0x7)], [], [], 0x0, [.pc 0x10002, .x 10 0xFFFFFFFFFFFFFFFE]⟩,
    ⟨0x8D2D, [(0xA, 0x5), (0xB, 0x7)], [], [], 0x0, [.pc 0x10002, .x 10 0x2]⟩,
    ⟨0x8D4D, [(0xA, 0x5), (0xB, 0x7)], [], [], 0x0, [.pc 0x10002, .x 10 0x7]⟩,
    ⟨0x8D6D, [(0xA, 0x5), (0xB, 0x7)], [], [], 0x0, [.pc 0x10002, .x 10 0x5]⟩,
    ⟨0x9D0D, [(0xA, 0x80000000), (0xB, 0x1)], [], [], 0x0, [.pc 0x10002, .x 10 0x7FFFFFFF]⟩,
    ⟨0x9D2D, [(0xA, 0x7FFFFFFF), (0xB, 0x1)], [], [], 0x0, [.pc 0x10002, .x 10 0xFFFFFFFF80000000]⟩] = true := by decide +kernel

theorem test_values_compressed_quadrant12 : agrees [
    ⟨0xBFFD, [], [], [], 0x0, [.pc 0xFFFE]⟩,
    ⟨0xD101, [(0xA, 0x0)], [], [], 0x0, [.pc 0xFF00]⟩,
    ⟨0xED7D, [(0xA, 0x1)], [], [], 0x0, [.pc 0x100FE]⟩,
    ⟨0x50A, [(0xA, 0x10)], [], [], 0x0, [.pc 0x10002, .x 10 0x40]⟩,
    ⟨0x2542, [(2, 0x7000)], [], [(0x7010, 0xEF), (0x7011, 0xBE), (0x7012, 0xAD), (0x7013, 0xDE), (0x7014, 0xD), (0x7015, 0xF0), (0x7016, 0xFE), (0x7017, 0xCA)], 0x0, [.pc 0x10002, .f 10 0xCAFEF00DDEADBEEF]⟩,
    ⟨0x4532, [(2, 0x7000)], [], [(0x700C, 0x1), (0x700D, 0x0), (0x700E, 0x0), (0x700F, 0x80)], 0x0, [.pc 0x10002, .x 10 0xFFFFFFFF80000001]⟩,
    ⟨0x60A2, [(2, 0x7000)], [], [(0x7008, 0xEF), (0x7009, 0xBE), (0x700A, 0xAD), (0x700B, 0xDE), (0x700C, 0xD), (0x700D, 0xF0), (0x700E, 0xFE), (0x700F, 0xCA)], 0x0, [.pc 0x10002, .x 1 0xCAFEF00DDEADBEEF]⟩,
    ⟨0x8502, [(0xA, 0x20001)], [], [], 0x0, [.pc 0x20000]⟩,
    ⟨0x852E, [(0xB, 0xCAFEF00DDEADBEEF)], [], [], 0x0, [.pc 0x10002, .x 10 0xCAFEF00DDEADBEEF]⟩,
    ⟨0x9002, [], [], [], 0x0, [.halt .breakpoint 0x10000, .ic 0x1]⟩,
    ⟨0x9502, [(0xA, 0x20001)], [], [], 0x0, [.pc 0x20000, .x 1 0x10002]⟩,
    ⟨0x952E, [(0xA, 0x1), (0xB, 0x2)], [], [], 0x0, [.pc 0x10002, .x 10 0x3]⟩,
    ⟨0xA82A, [(2, 0x7000)], [(0xA, 0xCAFEF00DDEADBEEF)], [], 0x0, [.pc 0x10002, .m 0x7010 0xEF, .m 0x7011 0xBE, .m 0x7012 0xAD, .m 0x7013 0xDE, .m 0x7014 0xD, .m 0x7015 0xF0, .m 0x7016 0xFE, .m 0x7017 0xCA]⟩,
    ⟨0xC62A, [(2, 0x7000), (0xA, 0x11223344)], [], [], 0x0, [.pc 0x10002, .m 0x700C 0x44, .m 0x700D 0x33, .m 0x700E 0x22, .m 0x700F 0x11]⟩,
    ⟨0xE406, [(2, 0x7000), (1, 0xCAFEF00DDEADBEEF)], [], [], 0x0, [.pc 0x10002, .m 0x7008 0xEF, .m 0x7009 0xBE, .m 0x700A 0xAD, .m 0x700B 0xDE, .m 0x700C 0xD, .m 0x700D 0xF0, .m 0x700E 0xFE, .m 0x700F 0xCA]⟩] = true := by decide +kernel

/-- spec/95_test_vectors.md section 2.12: LR.W, then SC.W twice: 0, then 1. -/
theorem test_store_conditional :
    (match exec (.lrW 5 6 0 0) (withX base [(6, 0x20000), (8, 0xAABBCCDD11223344)]) with
      | .next t => match exec (.scW 7 8 6 0 0) t with
        | .next u => match exec (.scW 9 8 6 0 0) u with
          | .next v => t.lm == .rmw 0x20000 .word && u.readX 7 == 0 && Memory.readLE v.mem 0x20000 4 == 0x11223344 &&
            v.readX 9 == 1 && v.gm == { state := .open, addr := 0x20000, failCount := 1 }
          | _ => false
        | _ => false
      | _ => false) = true := by decide +kernel

/-- spec/95_test_vectors.md section 2.12: an SC.D after an LR.W to the same address fails. -/
theorem test_store_conditional_size :
    (match exec (.lrW 5 6 0 0) (withX base [(6, 0x20000), (8, 1)]) with
      | .next t => match exec (.scD 7 8 6 0 0) t with
        | .next u => u.readX 7 == 1 && u.mem == [] && u.lm == .open
        | _ => false
      | _ => false) = true := by decide +kernel

/-- spec/40_integer_compute.md rules R195, R171, R213; spec/45_fp_primitives.md rule R380: hand calculation. -/
theorem test_by_hand : agrees [
    ⟨0x01F3129B, [(6, 1)], [], [], 0, [.x 5 0xFFFFFFFF80000000]⟩,
    ⟨0x0220F1B3, [(1, 7), (2, 0)], [], [], 0, [.x 3 7]⟩,
    ⟨0x0A20F1D3, [], [(1, 0x3FF8000000000000), (2, 0x3FF0000000000000)], [], 0, [.f 3 0x3FE0000000000000, .fcsr 0]⟩,
    ⟨0x2220A1D3, [], [(1, 0xBFF0000000000000), (2, 0x8000000000000000)], [], 0, [.f 3 0x3FF0000000000000, .fcsr 0]⟩,
    ⟨0x0FF0000F, [], [], [], 0, [.pc 0x10004, .ic 1]⟩, ⟨0x0000100F, [], [], [], 0, [.pc 0x10004, .ic 1]⟩] = true := by
  decide +kernel

/-- spec/48_vector_interface.md rule R506: 100 + 100 in 8 bits saturates to 127. -/
theorem test_satAdd : satAdd (100 : BitVec 8) 100 = (127, true) := by decide

/-! ### Witnesses: for every statement with hypotheses, a state and operands that meet them, clause by clause -/

theorem test_witness_EncodedInstructionDecodes : Instr.wf (.jal 31 (-2)) = true := by decide

theorem test_witness_DecodedWordIsEncoding :
    decodeInst 0xFFDFF06F = .ok (.jal 0 (-4)) ∧ decodeInst 0x00007139 = .ok (.cAddi16sp (-64)) := ⟨rfl, rfl⟩

theorem test_witness_CompressedIsExpansion :
    expansion (.cAddi 1 (-1)) = some (.addi 1 1 (-1)) ∧ ∀ r, Instr.cAddi 1 (-1) ≠ .cJalr r := ⟨rfl, nofun⟩

theorem test_witness_DivisionLaw :
    ((1 : BitVec 64) ≠ 0 ∧ ¬((BitVec.intMin 64).toInt = -2 ^ (64 - 1) ∧ (1 : BitVec 64).toInt = -1)) ∧
    ((BitVec.intMin 64).toInt = -2 ^ (64 - 1) ∧ (BitVec.allOnes 64).toInt = -1) ∧
    ((BitVec.intMin 32).toInt = -2 ^ (32 - 1) ∧ (BitVec.allOnes 32).toInt = -1) := by decide

theorem test_witness_TransfersWriteEvenPc :
    (∃ t, exec (.addi 1 0 5) base = .next t) ∧ transferring (.addi 1 0 5) = false ∧
    (∃ t, exec (.jal 1 (-2)) base = .next t) ∧ Instr.wf (.jal 1 (-2)) = true ∧ base.pc.getLsbD 0 = false :=
  ⟨⟨_, rfl⟩, rfl, ⟨_, rfl⟩, rfl, rfl⟩

/-- Every access must be aligned; `x1`, `x2` and `x8` hold the first address outside the null page. -/
def strict : State :=
  withX { base with cfg := { Config.default with requireAlignment := true } } [(1, 0x1000), (2, 0x1000), (8, 0x1000)]

/-- Only the bytes below 0x20000 are allocated. -/
def narrow : State := { strict with allocated := [(0, 0x20000)] }

theorem test_witness_LoadInstructions :
    OrdinaryOk strict (strict.ea 1 (sext 0#12)) 1 ∧ OrdinaryOk strict (strict.ea 1 (sext 0#12)) 2 ∧
    OrdinaryOk strict (strict.ea 1 (sext 0#12)) 4 ∧ OrdinaryOk strict (strict.ea 1 (sext 0#12)) 8 := by
  unfold OrdinaryOk OrdinaryPasses AllocatedAll Allocated; decide +kernel

theorem test_witness_StoreInstructions :
    Config.default.reservationGranule = 2 ^ 3 ∧
    OrdinaryOk strict (strict.ea 1 (sext 1#12)) 1 ∧ OrdinaryOk strict (strict.ea 1 (sext 2#12)) 2 ∧
    OrdinaryOk strict (strict.ea 1 (sext 4#12)) 4 ∧ OrdinaryOk strict (strict.ea 1 (sext 8#12)) 8 := by
  unfold OrdinaryOk OrdinaryPasses AllocatedAll Allocated; decide +kernel

theorem test_witness_CompressedAccesses :
    OrdinaryOk strict (strict.ea (cReg 0) (zext 4#7)) 4 ∧ OrdinaryOk strict (strict.ea (cReg 0) (zext 8#8)) 8 ∧
    OrdinaryOk strict (strict.ea sp (zext 0#8)) 4 ∧ OrdinaryOk strict (strict.ea sp (zext 0#9)) 8 := by
  unfold OrdinaryOk OrdinaryPasses AllocatedAll Allocated; decide +kernel

theorem test_witness_AccessFaults :
    dataAccess strict (.lw 3 1 (-1)) = some (false, 0xFFF, 4) ∧ (0xFFF : Word).toNat < strict.cfg.nullPageSize ∧
    dataAccess strict (.ld 3 1 4) = some (false, 0x1004, 8) ∧ strict.cfg.nullPageSize ≤ (0x1004 : Word).toNat ∧
    strict.cfg.requireAlignment = true ∧ (0x1004 : Word).toNat % 8 ≠ 0 ∧
    dataAccess (withX base [(6, 0x1002)]) (.lrW 5 6 0 0) = some (true, 0x1002, 4) ∧ (0x1002 : Word).toNat % 4 ≠ 0 := by
  decide +kernel

/-- Its last clause: the last byte of the word is not allocated, at an ordinary and at an atomic access. -/
theorem test_witness_AccessFaults_unallocated :
    (dataAccess (withX narrow [(6, 0x20000)]) (.lw 3 6 0) = some (false, 0x20000, 4) ∧
      OrdinaryPasses (withX narrow [(6, 0x20000)]) 0x20000 4 ∧ ¬AllocatedAll (withX narrow [(6, 0x20000)]) 0x20000 4) ∧
    (dataAccess (withX narrow [(6, 0x20000)]) (.lrW 3 6 0 0) = some (true, 0x20000, 4) ∧
      AtomicPasses (withX narrow [(6, 0x20000)]) 0x20000 4) ∧
    ∀ rd rs2 rs1 aq rl, Instr.lw 3 6 0 ≠ .scW rd rs2 rs1 aq rl ∧ Instr.lw 3 6 0 ≠ .scD rd rs2 rs1 aq rl := by
  unfold OrdinaryPasses AtomicPasses AllocatedAll Allocated
  exact ⟨by decide +kernel, by decide +kernel, fun _ _ _ _ _ => ⟨nofun, nofun⟩⟩

theorem test_witness_MixedWidthReads : 0 + 8 ≤ 8 ∧ 7 + 1 ≤ 8 := by decide

theorem test_witness_ExecutionRejects :
    (0x000 : BitVec 12) ≠ 0x001 ∧ (0x000 : BitVec 12) ≠ 0x002 ∧ (0x000 : BitVec 12) ≠ 0x003 ∧
    rmField (.faddS 3 1 2 5) = some 5 ∧ 5 ≤ (if (5 : BitVec 3) = 7 then frmOf base.fcsr else 5).toNat ∧
    rmField (.fcvtDS 3 1 7) = some 7 ∧ 5 ≤ (if (7 : BitVec 3) = 7 then frmOf (0xE0 : BitVec 8) else 7).toNat := by decide +kernel

theorem test_witness_FlagsAreSticky :
    (∃ t, exec (.fdivS 3 1 2 0) base = .next t) ∧ csrAccessing (.fdivS 3 1 2 0) = false ∧
    (∃ t, exec (.addi 3 1 2) base = .next t) ∧ csrAccessing (.addi 3 1 2) = false ∧ floatComputing (.addi 3 1 2) = false :=
  ⟨⟨_, rfl⟩, rfl, ⟨_, rfl⟩, rfl, rfl⟩

theorem test_witness_LoadLinkedInstructions : AtomicOk strict (strict.readX 1) 4 ∧ AtomicOk strict (strict.readX 1) 8 := by
  unfold AtomicOk AtomicPasses AllocatedAll Allocated; decide +kernel

theorem test_witness_AmoWordInstructions : AtomicOk (withX base [(6, 0x1004)]) ((withX base [(6, 0x1004)]).readX 6) 4 := by
  unfold AtomicOk AtomicPasses AllocatedAll Allocated; decide +kernel

theorem test_witness_AmoDoublewordInstructions :
    AtomicOk (withX base [(6, 0x1008)]) ((withX base [(6, 0x1008)]).readX 6) 8 := by
  unfold AtomicOk AtomicPasses AllocatedAll Allocated; decide +kernel

/-- `strict` with a pending Local Monitor of the size and a Global Monitor record at 0x1000. -/
def linked (size : MonitorSize) (g : GmState) (count : Nat) : State :=
  { strict with lm := .rmw 0x1000 size, gm := { state := g, addr := 0x1000, failCount := count } }

theorem test_witness_StoreConditionalInstructions :
    (AtomicOk (linked .word .rmw 4) ((linked .word .rmw 4).readX 1) 4 ∧
      AtomicOk (linked .doubleword .rmw 4) ((linked .doubleword .rmw 4).readX 1) 8) ∧
    ((linked .word .rmw 4).lm = .rmw ((linked .word .rmw 4).readX 1) .word ∧ (linked .word .rmw 4).gm.state = .rmw ∧
      (linked .word .rmw 4).gm.addr = (linked .word .rmw 4).readX 1 ∧
      (linked .word .rmw 4).gm.failCount < (linked .word .rmw 4).cfg.scForcedFailPeriod) ∧
    (linked .word .rmw 5).cfg.scForcedFailPeriod ≤ (linked .word .rmw 5).gm.failCount ∧
    (linked .doubleword .open 0).gm.state ≠ .rmw ∧
    (linked .word .rmw 0).lm ≠ .rmw ((linked .word .rmw 0).readX 1) .doubleword ∧
    (AtomicPasses { linked .word .rmw 0 with allocated := [] } 0x1000 4 ∧
      ¬AllocatedAll { linked .word .rmw 0 with allocated := [] } 0x1000 4) := by
  unfold AtomicOk AtomicPasses AllocatedAll Allocated; decide +kernel

theorem test_witness_StoreConditionalSucceedsOnce :
    AtomicOk strict (strict.readX 1) 4 ∧ (linked .word .open 4).gm.failCount < strict.cfg.scForcedFailPeriod ∧
    (5 : Reg) ≠ 1 ∧ (7 : Reg) ≠ 0 := by
  unfold AtomicOk AtomicPasses AllocatedAll Allocated; decide +kernel

theorem test_witness_AccessEffects :
    ((∃ t, exec (.add 3 1 2) strict = .next t) ∧ storing (.add 3 1 2) = false ∧ accessing (.add 3 1 2) = false ∧
      loadLinking (.add 3 1 2) = false) ∧
    accessing (.sd 2 1 0) = true ∧ loadLinking (.sd 2 1 0) = false ∧
    (match exec (.sd 2 1 0) strict with
      | .next t => t.run == strict.run && strict.run == .running
      | _ => false) = true :=
  ⟨⟨⟨_, rfl⟩, rfl, rfl, rfl⟩, rfl, rfl, by decide +kernel⟩

/-- The hypothesis of `FusedInstructions`, `FloatArithmeticInstructions`, `FloatToIntInstructions`, `ToFloatInstructions`. -/
theorem test_witness_RmSelects : RmSelects base 4 .rmm ∧ RmSelects { base with fcsr := 0x80 } 7 .rmm := by
  unfold RmSelects; decide +kernel

theorem test_witness_RoundToInteger :
    (0 < (Exact.mk 5 2).den ∧ |(Exact.mk 5 2).toRat - rint .rne ⟨5, 2⟩| = 1 / 2) ∧
    |(Exact.mk 5 2).toRat - rint .rmm ⟨5, 2⟩| = 1 / 2 := by decide +kernel

/-- In range: 1 has the exponent 0; out of range: 2^128 in binary32. -/
theorem test_witness_RoundToFormat :
    (0 < (Exact.mk 1 1).den ∧ (Exact.mk 1 1).num ≠ 0 ∧ (2 : ℚ) ^ (0 : Int) ≤ |(Exact.mk 1 1).toRat| ∧
      |(Exact.mk 1 1).toRat| < 2 ^ ((0 : Int) + 1) ∧
      |(rint .rne ⟨1 * 2 ^ 23, 1⟩ : ℚ) * 2 ^ (-23 : Int)| < 2 ^ (Fmt.s.emax + 1)) ∧
    ((2 : ℚ) ^ (128 : Int) ≤ |(Exact.mk (2 ^ 128) 1).toRat| ∧ |(Exact.mk (2 ^ 128) 1).toRat| < 2 ^ ((128 : Int) + 1) ∧
      2 ^ (Fmt.s.emax + 1) ≤ |(rint .rne ⟨2 ^ 128, 2 ^ 105⟩ : ℚ) * 2 ^ (105 : Int)|) := by
  norm_num [Exact.toRat, rint, rintMag, Fmt.emax, Fmt.bias, Fmt.expBits]

/-- Patterns of binary32 of every class the clauses of the statements about the primitives name: NaN, infinities, zeros, the
least subnormal, the largest finite number. -/
theorem test_witness_Addition :
    Fmt.s.isNan 0x7F800001#32 = true ∧ (Fmt.s.isInf 0x7F800000#32 = true ∧ Fmt.s.isInf 0xFF800000#32 = true ∧
      Fmt.s.sign 0x7F800000#32 ≠ Fmt.s.sign 0xFF800000#32) ∧ Fmt.s.finite 0x7F7FFFFF#32 = true ∧
    (Fmt.s.isZero 0#32 = true ∧ Fmt.s.isZero 0x80000000#32 = true) ∧
    (Fmt.s.finite 1#32 = true ∧ (Fmt.s.isZero 1#32 && Fmt.s.isZero 0#32) = false) := by decide

theorem test_witness_Multiplication :
    (Fmt.s.isNan 0x7FFFFFFF#32 || Fmt.s.isNan 0#32) = true ∧
    (Fmt.s.isZero 0x80000000#32 && Fmt.s.isInf 0x7F800000#32 || Fmt.s.isInf 0x80000000#32 && Fmt.s.isZero 0x7F800000#32) = true ∧
    (Fmt.s.isNan 1#32 = false ∧ Fmt.s.isZero 1#32 = false ∧ Fmt.s.isNan 0xFF800000#32 = false ∧
      Fmt.s.isZero 0xFF800000#32 = false ∧ (Fmt.s.isInf 1#32 || Fmt.s.isInf 0xFF800000#32) = true) ∧
    (Fmt.s.finite 1#32 = true ∧ (Fmt.s.isZero 1#32 || Fmt.s.isZero 0#32) = true) ∧
    (Fmt.s.finite 0x7F7FFFFF#32 = true ∧ Fmt.s.isZero 0x7F7FFFFF#32 = false) := by decide

theorem test_witness_Division :
    (Fmt.d.isNan 0x7FF0000000000001#64 || Fmt.d.isNan 0#64) = true ∧
    (Fmt.d.isInf 0#64 && Fmt.d.isInf 0x8000000000000000#64 || Fmt.d.isZero 0#64 && Fmt.d.isZero 0x8000000000000000#64) = true ∧
    (Fmt.d.isInf 0xFFF0000000000000#64 = true ∧ Fmt.d.finite 0#64 = true) ∧
    (Fmt.d.finite 1#64 = true ∧ Fmt.d.isZero 1#64 = false ∧ Fmt.d.isZero 0#64 = true) ∧
    Fmt.d.finite 0x7FEFFFFFFFFFFFFF#64 = true := by decide

theorem test_witness_SquareRoot :
    Fmt.s.isNan 0xFFC00000#32 = true ∧ Fmt.s.isZero 0x80000000#32 = true ∧
    (Fmt.s.isNan 0xFF800000#32 = false ∧ Fmt.s.isZero 0xFF800000#32 = false ∧ Fmt.s.sign 0xFF800000#32 = true) ∧
    (Fmt.s.isInf 0x7F800000#32 = true ∧ Fmt.s.sign 0x7F800000#32 = false) ∧
    (Fmt.s.finite 1#32 = true ∧ Fmt.s.isZero 1#32 = false ∧ Fmt.s.sign 1#32 = false) := by decide

theorem test_witness_FusedMultiplyAdd :
    (Fmt.s.isZero 0#32 && Fmt.s.isInf 0x7F800000#32 || Fmt.s.isInf 0#32 && Fmt.s.isZero 0x7F800000#32) = true ∧
    ((Fmt.s.isZero 1#32 && Fmt.s.isInf 1#32 || Fmt.s.isInf 1#32 && Fmt.s.isZero 1#32) = false ∧
      (Fmt.s.isNan 1#32 || Fmt.s.isNan 1#32 || Fmt.s.isNan 0x7FC00000#32) = true) ∧
    (Fmt.s.isNan 0x7F800000#32 = false ∧ Fmt.s.isZero 0x7F800000#32 = false ∧ Fmt.s.isNan 1#32 = false ∧
      Fmt.s.isZero 1#32 = false ∧ (Fmt.s.isInf 0x7F800000#32 || Fmt.s.isInf 1#32) = true) ∧
    (Fmt.s.finite 1#32 = true ∧ Fmt.s.isInf 0xFF800000#32 = true) ∧
    ((Fmt.s.isZero 0#32 || Fmt.s.isZero 1#32) = true ∧ Fmt.s.isZero 0x80000000#32 = true ∧ Fmt.s.finite 0#32 = true) ∧
    ((Fmt.s.isZero 1#32 || Fmt.s.isZero 1#32) && Fmt.s.isZero 0#32) = false := by decide

theorem test_witness_FloatToIntClamps :
    (Fmt.s.isNan 0x7FC00000#32 = true ∨ Fmt.s.isInf 0x7FC00000#32 = true ∧ Fmt.s.sign 0x7FC00000#32 = false) ∧
    (Fmt.s.isInf 0xFF800000#32 = true ∧ Fmt.s.sign 0xFF800000#32 = true) ∧ Fmt.s.finite 0x4F000000#32 = true := by decide

theorem test_witness_Comparisons :
    (Fmt.s.finite 0#32 = true ∧ Fmt.s.finite 0x80000000#32 = true) ∧ Fmt.s.isInf 0xFF800000#32 = true ∧
    (Fmt.s.isNan 1#32 || Fmt.s.isNan 0x7FC00000#32) = true := by decide

theorem test_witness_MinimumMaximum :
    (Fmt.s.isNan 0x7FC00000#32 = true ∧ Fmt.s.isNan 0x7F800001#32 = true) ∧ Fmt.s.isNan 0x7F800000#32 = false ∧
    (Fmt.s.isZero 0#32 = true ∧ Fmt.s.isZero 0x80000000#32 = true ∧ Fmt.s.sign 0#32 ≠ Fmt.s.sign 0x80000000#32) ∧
    (flt .s 0x80000001#32 0#32).1 = true ∧ (flt .s 0xFF800000#32 0x7F800000#32).1 = true := by decide +kernel

theorem test_witness_FloatToFloatConversions :
    Fmt.d.isNan 0x7FF0000000000001#64 = true ∧ Fmt.d.isInf 0xFFF0000000000000#64 = true ∧ Fmt.d.isZero 0#64 = true ∧
    (Fmt.d.finite 1#64 = true ∧ Fmt.d.isZero 1#64 = false) ∧ Fmt.s.isNan 0x7F800001#32 = true ∧
    Fmt.s.isInf 0x7F800000#32 = true ∧ Fmt.s.finite 1#32 = true := by decide

/-- `base` with addi x1, x0, 5 at `pc`. -/
def placed : State := base.withFetchWord 32 0x00500093

theorem placed_fetches : placed.Fetches :=
  ⟨⟨rfl, rfl, by decide, .inr ⟨nofun, nofun⟩⟩, rfl, by decide⟩

theorem test_witness_StepRunsDecodedInstruction :
    placed = placed.switchHart ∧ placed.Fetches ∧ AllocatedAll placed placed.pc (Instr.addi 1 0 5).len ∧
    decode [byteAt placed placed.pc 0, byteAt placed placed.pc 1, byteAt placed placed.pc 2, byteAt placed placed.pc 3] =
      .ok (.addi 1 0 5, []) :=
  ⟨rfl, placed_fetches, by unfold AllocatedAll Allocated; decide +kernel, rfl⟩

/-- Its end clauses: a running hart, and the three kinds of halt. -/
theorem test_witness_retire :
    placed.run = .running ∧ { placed with run := .halted .environmentCall 0 }.run = .halted .environmentCall 0 := ⟨rfl, rfl⟩

/-- A temporary breakpoint behind a disabled one, and a count threshold. -/
def stopped : State :=
  { placed with
    breakpoints := [⟨0x10000, false, false⟩, ⟨0x10000, true, true⟩]
    cfg := { Config.default with icountStop := some 0 } }

theorem test_witness_StopsBetweenInstructions :
    State.reset.run = .halted .reset 0 ∧ { placed with attached := false }.attached = false ∧
    ({ placed with pc := 0xFFFFFFFFFFFFFFFE }.pc = placed.cfg.endSimPc ∧ placed.run = .running ∧ placed.attached = true) ∧
    (stopped.run = .running ∧ stopped.pc ≠ stopped.cfg.endSimPc ∧ stopped.resumeSkip = false ∧
      stopped.breakpoints = [⟨0x10000, false, false⟩] ++ ⟨0x10000, true, true⟩ :: [] ∧
      ∀ c ∈ [(⟨0x10000, false, false⟩ : BreakpointEntry)], ¬(c.addr = stopped.pc ∧ c.enabled = true)) ∧
    ((∀ b ∈ { stopped with breakpoints := [] }.breakpoints, ¬(b.addr = stopped.pc ∧ b.enabled = true)) ∧
      stopped.cfg.icountStop = some stopped.icount.toNat) :=
  ⟨rfl, rfl, ⟨rfl, rfl, rfl⟩, ⟨rfl, by decide, rfl, rfl, by decide⟩, ⟨nofun, rfl⟩⟩

/-- A running hart at `a`. -/
def at_ (a : Word) : State := { base with pc := a }

theorem at_noStop (a : Word) (h : a ≠ 0xFFFFFFFFFFFFFFFE) : (at_ a).NoStop := ⟨rfl, rfl, h, .inr ⟨nofun, nofun⟩⟩

theorem test_witness_FetchAndDecodeFaults :
    ((at_ 0x10001).NoStop ∧ (0x10001 : Word).getLsbD 0 = true) ∧
    ((at_ 0xFFE).NoStop ∧ (0xFFE : Word).getLsbD 0 = false ∧ (0xFFE : Word).toNat < (at_ 0xFFE).cfg.nullPageSize) ∧
    ((at_ 0x1000).Fetches ∧ AllocatedAll (at_ 0x1000) 0x1000 2 ∧
      decodeInst ((half (at_ 0x1000) 0x1000).setWidth 32) = .error .unclassifiable) ∧
    ¬AllocatedAll { at_ 0x1000 with allocated := [(0, 0x1001)] } 0x1000 2 ∧
    (decodeInst 0x022180D7 = .error .vectorForm ∧ base.cfg.hasVectorUnit = false) := by
  unfold AllocatedAll Allocated
  exact ⟨⟨at_noStop _ (by decide), rfl⟩, ⟨at_noStop _ (by decide), rfl, by decide⟩,
    ⟨⟨at_noStop _ (by decide), rfl, by decide⟩, by decide +kernel, rfl⟩, by decide +kernel, rfl, rfl⟩

theorem test_witness_FatalHaltsArePrecise :
    base.run = .running ∧ Cause.fatal .unimplementedInstruction = true ∧
    (∃ t, step base = .next t ∧ t.run = .halted .unimplementedInstruction 0) := ⟨rfl, rfl, _, rfl, rfl⟩

theorem test_witness_CountsCompletedInstructions :
    placed.run = .running ∧ placed.attached = true ∧ ∃ t, step placed = .next t := ⟨rfl, rfl, _, rfl⟩

/-- Two harts, the second named by the schedule, and one no hart has. -/
def twoHarts : State := { placed with harts := [Hart.reset 1], schedule := [1, 7] }

theorem test_witness_StepTouchesItsHartOnly :
    placed.schedule = [] ∧
    (twoHarts.schedule = 1 :: [7] ∧ 1 ≠ twoHarts.hartId ∧ twoHarts.harts = [] ++ Hart.reset 1 :: [] ∧
      (Hart.reset 1).hartId = 1) ∧
    (∀ h ∈ twoHarts.harts, h.hartId ≠ 7) ∧ (twoHarts.attached = true ∧ 0 = twoHarts.hartId) ∧
    (∃ t, step placed = .next t) := ⟨rfl, by decide, by decide, by decide, _, rfl⟩

theorem test_witness_StepKeepsOk : placed.Ok ∧ ∃ t, step placed = .next t := by
  refine ⟨⟨rfl, ?_, by decide +kernel, by decide⟩, _, rfl⟩
  intro h hh
  obtain rfl : h = placed.toHart := List.mem_singleton.mp hh
  exact ⟨rfl, rfl, by decide +kernel, nofun⟩

/-- A hart just created is `Ok`, so the system of it is. -/
theorem reset_ok : State.reset.Ok := by
  refine ⟨rfl, ?_, by decide, by decide⟩
  intro h hh
  obtain rfl : h = Hart.reset 0 := List.mem_singleton.mp hh
  exact ⟨rfl, rfl, by decide, nofun⟩

/-- One hart of two there may be; and one of one. -/
theorem test_witness_ResetIsOk :
    1 ≤ Config.default.numHarts ∧ State.reset.Ok ∧
    ((∀ h ∈ State.reset.allHarts, h.hartId ≠ 5) ∧
      State.reset.allHarts.length < { Config.default with numHarts := 2 }.numHarts) ∧
    (∃ h ∈ State.reset.allHarts, h.hartId = 0) ∧ State.reset.allHarts.length = State.reset.cfg.numHarts :=
  ⟨by decide, reset_ok, ⟨by decide, by decide⟩, ⟨_, List.mem_singleton.mpr rfl, rfl⟩, rfl⟩

theorem test_witness_LaunchConvention :
    Config.default.stackAlign = 2 ^ 4 ∧ base.run = .running ∧ State.reset.run ≠ .running ∧ State.reset.attached = true ∧
    (List.replicate 9 (0 : Word)).length < 2 ^ 60 ∧ 7 < 9 ∧ 8 < 9 ∧ 8 * (9 - 8) ≤ ((8 : Word) - 0).toNat := by decide

/-- A hart halted at an ECALL. -/
def calling : State := { base with run := .halted .environmentCall 0x10000 }

theorem test_witness_BridgeContract :
    calling.run = .halted .environmentCall 0x10000 ∧ calling.attached = true ∧
    (∀ info, State.reset.run ≠ .halted .environmentCall info) ∧ base.run = .running := ⟨rfl, rfl, nofun, rfl⟩

/-- `base` with a vector unit, and a word of the vector form at `pc`. -/
def vectorPlaced : State :=
  State.withFetchWord { base with cfg := { Config.default with hasVectorUnit := true } } 32 0x022180D7

theorem test_witness_VectorPort :
    (vectorPlaced.Fetches ∧ AllocatedAll vectorPlaced vectorPlaced.pc 4 ∧
      decodeInst (word vectorPlaced vectorPlaced.pc) = .error .vectorForm) ∧
    (base.cfg.hasVectorUnit = false ∧ vectorPlaced.cfg.hasVectorUnit = true) ∧
    ((0xFFF : Word).toNat < strict.cfg.nullPageSize ∧ strict.cfg.nullPageSize ≤ (0x1004 : Word).toNat ∧
      strict.cfg.requireAlignment = true ∧ (0x1004 : Word).toNat % 2 ^ (3 : Fin 4).val ≠ 0) ∧
    (OrdinaryPasses narrow 0x20000 8 ∧ ¬AllocatedAll narrow 0x20000 8) ∧ OrdinaryOk narrow 0x1FFF8 (2 ^ (3 : Fin 4).val) := by
  unfold OrdinaryOk OrdinaryPasses AllocatedAll Allocated
  exact ⟨⟨⟨⟨rfl, rfl, by decide, .inr ⟨nofun, nofun⟩⟩, rfl, by decide⟩, by decide +kernel, rfl⟩, ⟨rfl, rfl⟩,
    by decide +kernel, by decide +kernel, by decide +kernel⟩

/-- Whatever the unit answers, its accesses meet the hypothesis of one of the three clauses about them. -/
theorem test_witness_VectorPort_answer (w : BitVec 32) (s : State) :
    (∃ c a, s.vectorAccesses (Config.vectorUnit (s.vectorRequest w)).accesses = .error (.halt c a)) ∨
      (∃ a, s.vectorAccesses (Config.vectorUnit (s.vectorRequest w)).accesses = .error (.unallocated a)) ∨
      ∃ u, s.vectorAccesses (Config.vectorUnit (s.vectorRequest w)).accesses = .ok u := by
  rcases s.vectorAccesses (Config.vectorUnit (s.vectorRequest w)).accesses with (⟨c, a⟩ | ⟨a⟩) | u <;> simp

/-- Of an answer's accesses, the second of which fails: the first has no effect that `vectorWord` keeps, and the stop says where. -/
theorem test_vectorAccesses :
    strict.vectorAccesses [.write 0x2000 3 5, .read 0x2004 3] = .error (.halt .misalignedAccess 0x2004) ∧
    narrow.vectorAccesses [.write 0x1FFFC 2 5, .read 0x20000 0] = .error (.unallocated 0x20000) := by decide +kernel

/-! ### The environment (spec/60_exceptions.md rules R588, R590; spec/49_atomics_monitor.md rule R527) -/

/-- A hart halted at an EBREAK goes on behind it: `pc` is written, then it is resumed. -/
theorem test_resume_after_ebreak :
    (match step (base.withFetchWord 32 0x00100073) with
      | .next t => t.run == .halted .breakpoint 0x10000 && t.icount == 1 &&
        (State.resume false (State.envWrite (.pc (t.pc + 4)) t)).pc == 0x10004 &&
        (State.resume false (State.envWrite (.pc (t.pc + 4)) t)).run == .running
      | _ => false) = true := by decide +kernel

/-- The hart in front is destroyed: the other one moves up, and with none left no record is held. -/
theorem test_detach :
    (twoHarts.detach 0).allHarts = [Hart.reset 1] ∧ (State.reset.detach 0).allHarts = [] ∧
    step (State.reset.detach 0) = .next (State.reset.detach 0) := ⟨rfl, rfl, rfl⟩

/-- An identifier in use is not attached again, nor a hart beyond `NUM_HARTS`. -/
theorem test_attach :
    State.attach 0 { State.reset with cfg := { Config.default with numHarts := 2 } } =
      { State.reset with cfg := { Config.default with numHarts := 2 } } ∧
    State.reset.attach 1 = State.reset ∧ ((State.reset.detach 0).attach 4).allHarts = [Hart.reset 4] := ⟨rfl, rfl, rfl⟩

/-! ### The interface: a program's word placed after reset runs, and nothing runs before a launch -/

theorem test_withFetchWord : (match step (State.reset.withFetchWord 32 0x00500093) with
    | .next t => t.readX 1 == 5 && t.icount == 1 && t.run == .running
    | _ => false) = true := by decide +kernel

theorem test_reset_step : step State.reset = .next State.reset := rfl

end Sys2Proof.Machine.Tests
end

section
/-! PROOFS. Floating-point patterns: a pattern is its sign and its two fields, and it is of exactly one class
(spec/45_fp_primitives.md rules R370, R371). -/

namespace Sys2Proof.Machine

section
variable (F : Fmt)

/-! ### Fields -/

/-- A pattern is made of its three fields. -/
theorem Fmt.mk_fields (a : F.Pattern) : F.mk (F.sign a) (F.expField a) (F.frac a) = a := by
  apply BitVec.eq_of_toNat_eq
  cases F <;>
    simp only [Fmt.mk, Fmt.sign, Fmt.expField, Fmt.frac, Fmt.expBits, Fmt.fracBits, Fmt.width, BitVec.toNat_ofNat,
      BitVec.msb_eq_decide, decide_eq_true_eq] <;>
    split <;> omega

theorem Fmt.eq_inf {F : Fmt} {a : F.Pattern} (h : F.isInf a = true) : a = F.inf (F.sign a) := by
  obtain ⟨hexp, hfrac⟩ : F.expField a = F.expMax ∧ F.frac a = 0 := by simpa [Fmt.isInf] using h
  rw [Fmt.inf, ← hexp, ← hfrac, F.mk_fields]

/-- The bits below the sign, as one number. -/
theorem Fmt.toNat_mod (a : F.Pattern) :
    a.toNat % 2 ^ (F.width - 1) = F.expField a * 2 ^ F.fracBits + F.frac a := by
  cases F <;> simp only [Fmt.expField, Fmt.frac, Fmt.expBits, Fmt.fracBits, Fmt.width] <;> omega

theorem Fmt.frac_lt (a : F.Pattern) : F.frac a < 2 ^ F.fracBits := Nat.mod_lt _ (by positivity)

theorem Fmt.expMax_pos : 0 < F.expMax := by cases F <;> decide

/-! ### Classes -/

/-- Finite with the leading 1. -/
def Fmt.isNormal (a : F.Pattern) : Bool := F.finite a && F.expField a != 0

/-- A normal number, read off the bits below the sign. -/
theorem Fmt.isNormal_eq (a : F.Pattern) :
    (F.finite a && decide (2 ^ F.fracBits ≤ a.toNat % 2 ^ (F.width - 1))) = F.isNormal a := by
  have hfrac := F.frac_lt a
  rw [Fmt.isNormal, F.toNat_mod]
  rcases Nat.eq_zero_or_pos (F.expField a) with h | h
  · simp [h, hfrac]
  · have : 2 ^ F.fracBits ≤ F.expField a * 2 ^ F.fracBits := Nat.le_mul_of_pos_left _ h
    simp [h.ne', this.trans (Nat.le_add_right _ _)]

/-- Every pattern is of exactly one of five classes. -/
theorem Fmt.class_cases (a : F.Pattern) :
    (F.isNan a = true ∧ F.isInf a = false ∧ F.isZero a = false ∧ F.isSubnormal a = false ∧ F.isNormal a = false) ∨
    (F.isNan a = false ∧ F.isInf a = true ∧ F.isZero a = false ∧ F.isSubnormal a = false ∧ F.isNormal a = false) ∨
    (F.isNan a = false ∧ F.isInf a = false ∧ F.isZero a = true ∧ F.isSubnormal a = false ∧ F.isNormal a = false) ∨
    (F.isNan a = false ∧ F.isInf a = false ∧ F.isZero a = false ∧ F.isSubnormal a = true ∧ F.isNormal a = false) ∨
    (F.isNan a = false ∧ F.isInf a = false ∧ F.isZero a = false ∧ F.isSubnormal a = false ∧ F.isNormal a = true) := by
  have hmax : F.expMax ≠ 0 := F.expMax_pos.ne'
  simp only [Fmt.isNormal, Fmt.finite, Fmt.isNan, Fmt.isInf, Fmt.isZero, Fmt.isSubnormal]
  by_cases h0 : F.expField a = 0
  · by_cases hf : F.frac a = 0 <;> simp [h0, hf, hmax.symm]
  · by_cases hm : F.expField a = F.expMax
    · by_cases hf : F.frac a = 0 <;> simp [hm, hf, hmax]
    · simp [h0, hm]

/-- A NaN is either signaling or quiet; nothing else is one of them. -/
theorem Fmt.isQnan_eq (a : F.Pattern) : F.isQnan a = (F.isNan a && !F.isSnan a) := by
  rw [Fmt.isQnan, Fmt.isSnan, decide_eq_decide.mpr not_lt.symm, decide_not]
  cases F.isNan a <;> rfl

theorem Fmt.isSnan_of_not_nan {F : Fmt} {a : F.Pattern} (h : F.isNan a = false) : F.isSnan a = false := by
  simp [Fmt.isSnan, h]

/-! ### The mask of `fclass` -/

theorem fclassBit_lt (a : F.Pattern) : fclassBit F a < 10 := by
  unfold fclassBit
  repeat' split
  all_goals decide

theorem fclass_eq_twoPow (a : F.Pattern) : fclass F a = BitVec.twoPow 64 (fclassBit F a) :=
  (BitVec.twoPow_eq 64 _).symm

/-- A bit of the mask is set when it is the one of the class. -/
theorem getLsbD_fclass (a : F.Pattern) (k : Nat) : (fclass F a).getLsbD k = decide (fclassBit F a = k) := by
  have : fclassBit F a < 64 := (fclassBit_lt F a).trans (by decide)
  simp [fclass_eq_twoPow, BitVec.getLsbD_twoPow, this]

end

/-- Settles O47: the class of the operand is the one `fclassBit` names, and the mask has that bit only. -/
theorem classification : Obligations.Classification := by
  unfold Obligations.Classification
  intro F a
  refine ⟨⟨_, fclassBit_lt F a, fclass_eq_twoPow F a⟩, ?_⟩
  simp only [getLsbD_fclass, F.isNormal_eq, F.isQnan_eq]
  obtain hnan | h | h | h | h := F.class_cases a
  case inl => cases hq : F.isSnan a <;> simp [fclassBit, hnan, hq]
  all_goals cases hsign : F.sign a <;> simp [fclassBit, h, hsign, Fmt.isSnan_of_not_nan h.1]

/-! ### Comparisons -/

theorem Fmt.value_den_pos (F : Fmt) (a : F.Pattern) : 0 < (F.value a).den := Nat.two_pow_pos _

/-- The comparison by cross-multiplication is that of the rationals. -/
theorem Exact.lt_eq {x y : Exact} (hx : 0 < x.den) (hy : 0 < y.den) : x.lt y = decide (x.toRat < y.toRat) := by
  have hx' : (0 : ℚ) < x.den := by exact_mod_cast hx
  have hy' : (0 : ℚ) < y.den := by exact_mod_cast hy
  rw [Exact.lt, Exact.toRat, Exact.toRat, decide_eq_decide, div_lt_div_iff₀ hx' hy']
  norm_cast

section
variable {F : Fmt} {a b : F.Pattern}

theorem Fmt.finite_iff : F.finite a = true ↔ F.isNan a = false ∧ F.isInf a = false := by simp [Fmt.finite]

theorem Fmt.isNan_of_isInf (h : F.isInf a = true) : F.isNan a = false := by
  simp_all [Fmt.isInf, Fmt.isNan]

theorem Fmt.valueLt_of_finite (ha : F.finite a = true) (hb : F.finite b = true) :
    F.valueLt a b = decide (F.ratValue a < F.ratValue b) := by
  rw [Fmt.finite_iff] at ha hb
  simp only [Fmt.valueLt, ha, hb, Exact.lt_eq (F.value_den_pos a) (F.value_den_pos b), Fmt.ratValue]
  rfl

theorem Fmt.valueLt_of_inf_finite (ha : F.isInf a = true) (hb : F.isInf b = false) : F.valueLt a b = F.sign a := by
  simp [Fmt.valueLt, ha, hb]

theorem Fmt.valueLt_of_finite_inf (ha : F.isInf a = false) (hb : F.isInf b = true) : F.valueLt a b = !F.sign b := by
  simp [Fmt.valueLt, ha, hb]

theorem Fmt.valueLt_of_inf (ha : F.isInf a = true) (hb : F.isInf b = true) :
    F.valueLt a b = (F.sign a && !F.sign b) := by
  simp [Fmt.valueLt, ha, hb]

theorem Fmt.inf_eq_iff (ha : F.isInf a = true) (hb : F.isInf b = true) : a = b ↔ F.sign a = F.sign b :=
  ⟨fun h => h ▸ rfl, fun h => by rw [Fmt.eq_inf ha, h, ← Fmt.eq_inf hb]⟩

/-- Of two patterns that are no NaNs, the three comparisons are those of `valueLt`, with no flag. -/
theorem comparisons_of_not_nan (ha : F.isNan a = false) (hb : F.isNan b = false) :
    feq F a b = (!F.valueLt a b && !F.valueLt b a, 0) ∧ flt F a b = (F.valueLt a b, 0) ∧
      fle F a b = (!F.valueLt b a, 0) := by
  simp [feq, flt, fle, Fmt.valueEq, snanFlag2, Flags.when, Flags.none, ha, hb, Fmt.isSnan_of_not_nan]

/-- With a NaN all three comparisons are false. -/
theorem comparisons_of_nan (h : (F.isNan a || F.isNan b) = true) :
    feq F a b = (false, if (F.isSnan a || F.isSnan b) = true then Flags.nv else 0) ∧
      flt F a b = (false, Flags.nv) ∧ fle F a b = (false, Flags.nv) := by
  simp only [feq, flt, fle, h, if_true, Bool.not_true, Bool.false_and, and_true]
  rfl

end

/-- Settles O45: without a NaN the comparisons are those of `valueLt`, which is the order of the values with the infinities
outside. -/
theorem comparisons : Obligations.Comparisons := by
  unfold Obligations.Comparisons
  intro F a b
  refine ⟨fun ha hb => ?_, fun ha hb => ?_, fun ha hb => ?_, comparisons_of_nan⟩
  · obtain ⟨heq, hlt, hle⟩ := comparisons_of_not_nan (Fmt.finite_iff.mp ha).1 (Fmt.finite_iff.mp hb).1
    rw [heq, hlt, hle, Fmt.valueLt_of_finite ha hb, Fmt.valueLt_of_finite hb ha]
    simp only [← decide_not, not_lt, ← Bool.decide_and, eq_comm (a := F.ratValue a), le_antisymm_iff, and_self]
  · obtain ⟨hnb, hib⟩ := Fmt.finite_iff.mp hb
    have hna := Fmt.isNan_of_isInf ha
    obtain ⟨heq, hlt, hle⟩ := comparisons_of_not_nan hna hnb
    obtain ⟨heq', hlt', hle'⟩ := comparisons_of_not_nan hnb hna
    simp [heq, hlt, hle, heq', hlt', hle', Fmt.valueLt_of_inf_finite ha hib, Fmt.valueLt_of_finite_inf hib ha]
  · obtain ⟨heq, hlt, hle⟩ := comparisons_of_not_nan (Fmt.isNan_of_isInf ha) (Fmt.isNan_of_isInf hb)
    simp only [heq, hlt, hle, Fmt.valueLt_of_inf ha hb, Fmt.valueLt_of_inf hb ha, Fmt.inf_eq_iff ha hb]
    cases F.sign a <;> cases F.sign b <;> decide

end Sys2Proof.Machine
end

section
/-! PROOFS. Rounding to an integer: the magnitude is `q + f` with `q` an integer and `0 ≤ f < 1`, and each mode picks `q` or
`q + 1` by `f` (spec/45_fp_primitives.md rule R374). -/

namespace Sys2Proof.Machine

/-! ### Magnitudes -/

/-- The mode rounds a magnitude `q + f`, of a number of sign `neg`, away from zero. -/
def RoundsUp (rm : RoundingMode) (neg : Bool) (q : Nat) (f : ℚ) : Prop :=
  match rm with
  | .rne => 1 / 2 < f ∨ f = 1 / 2 ∧ q % 2 = 1
  | .rtz => False
  | .rdn => neg = true ∧ f ≠ 0
  | .rup => neg = false ∧ f ≠ 0
  | .rmm => 1 / 2 ≤ f

section
variable {r d : Nat} (hd : (0 : ℚ) < d)
include hd

theorem half_lt_div_iff : (1 / 2 : ℚ) < r / d ↔ d < 2 * r := by
  rw [div_lt_div_iff₀ two_pos hd, one_mul, mul_comm]
  norm_cast

theorem half_le_div_iff : (1 / 2 : ℚ) ≤ r / d ↔ d ≤ 2 * r := by
  rw [div_le_div_iff₀ two_pos hd, one_mul, mul_comm]
  norm_cast

theorem div_eq_half_iff : (r / d : ℚ) = 1 / 2 ↔ 2 * r = d := by
  rw [div_eq_div_iff hd.ne' two_ne_zero, one_mul, mul_comm]
  norm_cast

end

section
variable {n d : Nat} (rm : RoundingMode) (neg : Bool)

/-- All that rounding a magnitude can do: `n / d` is `q + f`, and the result is `q + 1` or `q` as the mode says. -/
theorem rintMag_cases (n : Nat) (hd : 0 < d) :
    ∃ (q : Nat) (f : ℚ), (n : ℚ) / d = q + f ∧ 0 ≤ f ∧ f < 1 ∧ (n % d = 0 ↔ f = 0) ∧
      (rintMag rm neg n d = q + 1 ∧ RoundsUp rm neg q f ∨ rintMag rm neg n d = q ∧ ¬RoundsUp rm neg q f) := by
  have hd' : (0 : ℚ) < d := by exact_mod_cast hd
  have hlt : ((n % d : Nat) : ℚ) < d := by exact_mod_cast Nat.mod_lt n hd
  have hzero : n % d = 0 ↔ ((n % d : Nat) : ℚ) / d = 0 := by simp [hd'.ne']
  refine ⟨n / d, (n % d : Nat) / d, ?_, by positivity, (div_lt_one hd').mpr hlt, hzero, ?_⟩
  · rw [div_eq_iff hd'.ne', add_mul, div_mul_cancel₀ _ hd'.ne']
    exact_mod_cast (Nat.div_add_mod' n d).symm
  · unfold RoundsUp rintMag
    cases rm <;> simp only [half_lt_div_iff hd', div_eq_half_iff hd', half_le_div_iff hd', ← hzero.not] <;> grind

/-- Rounding is monotone towards integers, from below. -/
theorem le_rintMag (hd : 0 < d) {k : Nat} (h : (k : ℚ) ≤ n / d) : k ≤ rintMag rm neg n d := by
  obtain ⟨q, f, hy, -, hf1, -, hm⟩ := rintMag_cases rm neg n hd
  have : (k : ℚ) < q + 1 := by linarith
  have : k < q + 1 := by exact_mod_cast this
  omega

/-- Rounding is monotone towards integers, from above. -/
theorem rintMag_le (hd : 0 < d) {k : Nat} (h : (n : ℚ) / d < k) : rintMag rm neg n d ≤ k := by
  obtain ⟨q, f, hy, hf0, -, -, hm⟩ := rintMag_cases rm neg n hd
  have : (q : ℚ) < k := by linarith
  have : q < k := by exact_mod_cast this
  omega

/-- In every mode an integer, and nothing else, is rounded to itself. -/
theorem rintMag_eq_self_iff (hd : 0 < d) : (rintMag rm neg n d : ℚ) = n / d ↔ n % d = 0 := by
  obtain ⟨q, f, hy, hf0, hf1, hf, ⟨hm, hup⟩ | ⟨hm, -⟩⟩ := rintMag_cases rm neg n hd <;> rw [hy, hm, hf]
  · have : f ≠ 0 := by
      rintro rfl
      cases rm <;> norm_num [RoundsUp] at hup
    constructor <;> intro h
    · push_cast at h
      linarith
    · exact absurd h this
  · simp

end

/-- RDN of a positive number and RUP of a negative one drop the fraction. -/
theorem rintMag_toward_zero (n d : Nat) :
    (rintMag .rdn false n d : Int) = ⌊(n : ℚ) / d⌋ ∧ (rintMag .rup true n d : Int) = ⌊(n : ℚ) / d⌋ := by
  simp [rintMag, Rat.floor_natCast_div_natCast]

/-- RUP of a positive number and RDN of a negative one take a fraction up. -/
theorem rintMag_from_zero {d : Nat} (n : Nat) (hd : 0 < d) :
    (rintMag .rup false n d : Int) = ⌈(n : ℚ) / d⌉ ∧ (rintMag .rdn true n d : Int) = ⌈(n : ℚ) / d⌉ := by
  have hsame : rintMag .rdn true n d = rintMag .rup false n d := by simp [rintMag]
  rw [hsame, and_self, eq_comm, Int.ceil_eq_iff]
  obtain ⟨q, f, hy, hf0, hf1, -, ⟨hm, hup⟩ | ⟨hm, hup⟩⟩ := rintMag_cases .rup false n hd <;> rw [hy, hm]
  · have hpos : 0 < f := lt_of_le_of_ne hf0 hup.2.symm
    push_cast
    constructor <;> linarith
  · have hzero : f = 0 := by simpa [RoundsUp] using hup
    simp [hzero]

/-! ### Signs -/

/-- The factor a sign stands for. -/
def signFactor (neg : Bool) : ℚ := if neg then -1 else 1

theorem abs_signFactor_mul (neg : Bool) (y : ℚ) : |signFactor neg * y| = |y| := by
  cases neg <;> simp [signFactor]

theorem signFactor_mul_inj {neg : Bool} {y z : ℚ} : signFactor neg * y = signFactor neg * z ↔ y = z := by
  cases neg <;> simp [signFactor]

theorem Exact.toRat_eq (x : Exact) : x.toRat = signFactor (decide (x.num < 0)) * (x.num.natAbs / x.den) := by
  rw [Exact.toRat, Nat.cast_natAbs]
  rcases lt_or_ge x.num 0 with h | h
  · simp [signFactor, h, abs_of_neg h, neg_div]
  · simp [signFactor, h.not_gt, abs_of_nonneg h]

theorem rint_eq (rm : RoundingMode) (x : Exact) :
    (rint rm x : ℚ) = signFactor (decide (x.num < 0)) * rintMag rm (decide (x.num < 0)) x.num.natAbs x.den := by
  unfold rint
  cases decide (x.num < 0) <;> simp [signFactor]

theorem natAbs_rint (rm : RoundingMode) (x : Exact) :
    (rint rm x).natAbs = rintMag rm (decide (x.num < 0)) x.num.natAbs x.den := by
  unfold rint
  cases decide (x.num < 0) <;> simp

theorem Exact.abs_toRat (x : Exact) : |x.toRat| = x.num.natAbs / x.den := by
  rw [x.toRat_eq, abs_signFactor_mul, abs_of_nonneg (by positivity)]

/-! ### The modes -/

theorem Exact.toRat_nonneg_iff {x : Exact} (hx : 0 < x.den) : 0 ≤ x.toRat ↔ 0 ≤ x.num := by
  rw [Exact.toRat, le_div_iff₀ (by exact_mod_cast hx), zero_mul, Int.cast_nonneg_iff]

/-- RTZ is RDN of a positive number and RUP of a negative one. -/
theorem rint_rtz_eq (x : Exact) : rint .rtz x = if 0 ≤ x.num then rint .rdn x else rint .rup x := by
  rcases lt_or_ge x.num 0 with h | h
  · simp [rint, rintMag, h, h.not_ge]
  · simp [rint, rintMag, h, h.not_gt]

section
variable {x : Exact} (hx : 0 < x.den)
include hx

theorem rint_rdn : rint .rdn x = ⌊x.toRat⌋ := by
  rw [x.toRat_eq]
  unfold rint
  rcases lt_or_ge x.num 0 with h | h
  · simp [h, signFactor, (rintMag_from_zero _ hx).2, Int.floor_neg]
  · simp [h.not_gt, signFactor, (rintMag_toward_zero _ _).1]

theorem rint_rup : rint .rup x = ⌈x.toRat⌉ := by
  rw [x.toRat_eq]
  unfold rint
  rcases lt_or_ge x.num 0 with h | h
  · simp [h, signFactor, (rintMag_toward_zero _ _).2, Int.ceil_neg]
  · simp [h.not_gt, signFactor, (rintMag_from_zero _ hx).1]

theorem rint_rtz : rint .rtz x = if 0 ≤ x.toRat then ⌊x.toRat⌋ else ⌈x.toRat⌉ := by
  rw [rint_rtz_eq, rint_rdn hx, rint_rup hx, if_congr (Exact.toRat_nonneg_iff hx) rfl rfl]

/-- The distance of a number from its rounding, by the direction in which its magnitude is rounded. -/
theorem rint_cases (rm : RoundingMode) :
    ∃ (q : Nat) (f : ℚ), 0 ≤ f ∧ f < 1 ∧ |x.toRat| = q + f ∧
      (RoundsUp rm (decide (x.num < 0)) q f ∧ (rint rm x).natAbs = q + 1 ∧ |x.toRat - rint rm x| = 1 - f ∨
        ¬RoundsUp rm (decide (x.num < 0)) q f ∧ (rint rm x).natAbs = q ∧ |x.toRat - rint rm x| = f) := by
  obtain ⟨q, f, hy, hf0, hf1, -, hm⟩ := rintMag_cases rm (decide (x.num < 0)) x.num.natAbs hx
  refine ⟨q, f, hf0, hf1, x.abs_toRat.trans hy, ?_⟩
  rw [x.toRat_eq, rint_eq, ← mul_sub, abs_signFactor_mul, natAbs_rint, hy]
  obtain ⟨hm, hup⟩ | ⟨hm, hup⟩ := hm <;> rw [hm]
  · refine .inl ⟨hup, rfl, ?_⟩
    rw [abs_of_neg (by push_cast; linarith)]
    push_cast
    ring
  · exact .inr ⟨hup, rfl, by rw [add_sub_cancel_left, abs_of_nonneg hf0]⟩

/-- RNE is within one half, and even at a tie. -/
theorem rint_rne : |x.toRat - rint .rne x| ≤ 1 / 2 ∧ (|x.toRat - rint .rne x| = 1 / 2 → rint .rne x % 2 = 0) := by
  obtain ⟨q, f, -, -, -, ⟨hup, hm, hdist⟩ | ⟨hup, hm, hdist⟩⟩ := rint_cases hx .rne <;> rw [hdist] <;>
    simp only [RoundsUp] at hup
  · refine ⟨by rcases hup with h | h <;> linarith, fun htie => ?_⟩
    obtain ⟨-, hodd⟩ := hup.resolve_left (by linarith)
    omega
  · push Not at hup
    exact ⟨hup.1, fun htie => by have := hup.2 htie; omega⟩

/-- RMM is within one half, and of the larger magnitude at a tie. -/
theorem rint_rmm :
    |x.toRat - rint .rmm x| ≤ 1 / 2 ∧ (|x.toRat - rint .rmm x| = 1 / 2 → |x.toRat| < |(rint .rmm x : ℚ)|) := by
  obtain ⟨q, f, -, hf1, hy, ⟨hup, hm, hdist⟩ | ⟨hup, hm, hdist⟩⟩ := rint_cases hx .rmm <;> rw [hdist] <;>
    simp only [RoundsUp] at hup
  · refine ⟨by linarith, fun _ => ?_⟩
    rw [hy, ← Int.cast_abs, ← Nat.cast_natAbs, hm]
    push_cast
    linarith
  · exact ⟨by linarith, fun htie => absurd htie.ge hup⟩

end

/-- Settles O37, mode by mode. -/
theorem roundToInteger : Obligations.RoundToInteger := by
  unfold Obligations.RoundToInteger
  intro x hx
  obtain ⟨hrne, hrneTie⟩ := rint_rne hx
  exact ⟨rint_rdn hx, rint_rup hx, rint_rtz hx, hrne, hrneTie, rint_rmm hx⟩

end Sys2Proof.Machine
end

section
/-! PROOFS. Powers of two: the model scales by natural powers, the statements by integer ones. -/

namespace Sys2Proof.Machine

theorem two_zpow_eq_div (k : Int) : (2 : ℚ) ^ k = 2 ^ k.toNat / 2 ^ (-k).toNat := by
  obtain ⟨n, rfl | rfl⟩ := k.eq_nat_or_neg <;> simp

/-- A fraction scaled by `2^-q` in natural numbers. -/
theorem cast_scaled_div (n d : Nat) (q : Int) :
    ((n * 2 ^ (-q).toNat : Nat) : ℚ) / (d * 2 ^ q.toNat : Nat) = n / d / 2 ^ q := by
  rw [two_zpow_eq_div q]
  push_cast
  rw [div_div_eq_mul_div, div_mul_eq_mul_div, div_div]

theorem Exact.toRat_scale (m k : Int) : (Exact.scale m k).toRat = m * 2 ^ k := by
  rw [Exact.toRat, Exact.scale, two_zpow_eq_div k]
  push_cast
  rw [mul_div_assoc]

theorem two_zpow_lt_iff {j k : Int} : (2 : ℚ) ^ j < 2 ^ k ↔ j < k := zpow_lt_zpow_iff_right₀ one_lt_two

theorem two_zpow_le_iff {j k : Int} : (2 : ℚ) ^ j ≤ 2 ^ k ↔ j ≤ k := zpow_le_zpow_iff_right₀ one_lt_two

theorem two_pow_mul_zpow (n : Nat) (k : Int) : (2 : ℚ) ^ n * 2 ^ (k - n) = 2 ^ k := by
  rw [← zpow_natCast, ← zpow_add₀ two_ne_zero, add_sub_cancel]

/-! ### Logarithms -/

/-- `reaches` compares with a power of two. -/
theorem reaches_iff (m : Nat) (q k : Int) : reaches m q k = true ↔ (2 : ℚ) ^ k ≤ m * 2 ^ q := by
  rcases Nat.eq_zero_or_pos m with rfl | hm
  · simp [reaches, zpow_pos]
  · have hlog := Int.zpow_le_iff_le_log (b := 2) one_lt_two (x := k - q) (r := (m : ℚ)) (by exact_mod_cast hm)
    rw [sub_le_iff_le_add, Int.log_natCast, ← Nat.log2_eq_log_two, Nat.cast_ofNat, zpow_sub₀ two_ne_zero,
      div_le_iff₀ (zpow_pos two_pos q)] at hlog
    simp [reaches, hm.ne', hlog, add_comm q]

/-- The exponent the model finds brackets the fraction. -/
theorem floorLog2_spec {n d : Nat} (hn : 0 < n) (hd : 0 < d) :
    (2 : ℚ) ^ floorLog2 n d ≤ n / d ∧ (n : ℚ) / d < 2 ^ (floorLog2 n d + 1) := by
  have hd' : (0 : ℚ) < d := by exact_mod_cast hd
  have hnlo : (2 : ℚ) ^ (n.log2 : Int) ≤ n := by exact_mod_cast Nat.log2_self_le hn.ne'
  have hnhi : (n : ℚ) < 2 ^ (n.log2 + 1 : Int) := by exact_mod_cast Nat.lt_log2_self
  have hdlo : (2 : ℚ) ^ (d.log2 : Int) ≤ d := by exact_mod_cast Nat.log2_self_le hd.ne'
  have hdhi : (d : ℚ) < 2 ^ (d.log2 + 1 : Int) := by exact_mod_cast Nat.lt_log2_self
  have hlo : (2 : ℚ) ^ ((n.log2 : Int) - d.log2 - 1) ≤ n / d := by
    rw [sub_sub, zpow_sub₀ two_ne_zero]
    exact div_le_div₀ (by positivity) hnlo hd' hdhi.le
  have hhi : (n : ℚ) / d < 2 ^ ((n.log2 : Int) - d.log2 + 1) := by
    rw [sub_add_eq_add_sub, zpow_sub₀ two_ne_zero]
    exact div_lt_div₀ hnhi hdlo (by positivity) (by positivity)
  have hiff (k : Int) : n * 2 ^ (-k).toNat < d * 2 ^ k.toNat ↔ (n : ℚ) / d < 2 ^ k := by
    rw [← div_lt_one (zpow_pos (two_pos (α := ℚ)) k), ← cast_scaled_div, div_lt_one (by positivity), Nat.cast_lt]
  unfold floorLog2
  simp only [hiff]
  split
  · next h => exact ⟨hlo, by rwa [sub_add_cancel]⟩
  · next h => exact ⟨not_lt.mp h, hhi⟩

/-- A bracket by powers of two is the model's exponent. -/
theorem floorLog2_eq {n d : Nat} (hn : 0 < n) (hd : 0 < d) {e : Int} (hlo : (2 : ℚ) ^ e ≤ n / d)
    (hhi : (n : ℚ) / d < 2 ^ (e + 1)) : floorLog2 n d = e := by
  obtain ⟨hlo', hhi'⟩ := floorLog2_spec hn hd
  have h1 := two_zpow_lt_iff.mp (hlo.trans_lt hhi')
  have h2 := two_zpow_lt_iff.mp (hlo'.trans_lt hhi)
  omega

end Sys2Proof.Machine
end

section
/-! PROOFS. The number a pattern of given fields denotes, with the carry of a rounded significand into the exponent
(spec/45_fp_primitives.md rules R370, R377). -/

namespace Sys2Proof.Machine

variable (F : Fmt)

/-! ### The fields of a made pattern -/

section
variable {exp frac : Nat} (s : Bool) (hexp : exp < F.expMax) (hfrac : frac < 2 ^ F.fracBits)
include hexp hfrac

theorem Fmt.toNat_mk :
    (F.mk s exp frac).toNat = (if s then 2 ^ (F.expBits + F.fracBits) else 0) + exp * 2 ^ F.fracBits + frac := by
  rw [Fmt.mk, BitVec.toNat_ofNat, Nat.mod_eq_of_lt]
  cases F <;> simp only [Fmt.expMax, Fmt.expBits, Fmt.fracBits, Fmt.width] at * <;> split <;> omega

theorem Fmt.sign_mk : F.sign (F.mk s exp frac) = s := by
  rw [Fmt.sign, BitVec.msb_eq_decide, F.toNat_mk s hexp hfrac]
  cases F <;> cases s <;> simp [Fmt.expMax, Fmt.expBits, Fmt.fracBits, Fmt.width] at * <;> omega

theorem Fmt.expField_mk : F.expField (F.mk s exp frac) = exp := by
  rw [Fmt.expField, F.toNat_mk s hexp hfrac]
  cases F <;> simp only [Fmt.expMax, Fmt.expBits, Fmt.fracBits] at * <;> split <;> omega

theorem Fmt.frac_mk : F.frac (F.mk s exp frac) = frac := by
  rw [Fmt.frac, F.toNat_mk s hexp hfrac]
  cases F <;> simp only [Fmt.expBits, Fmt.fracBits] at * <;> split <;> omega

theorem Fmt.finite_mk : F.finite (F.mk s exp frac) = true := by
  simp [Fmt.finite_iff, Fmt.isNan, Fmt.isInf, F.expField_mk s hexp hfrac, hexp.ne]

end

/-- A fraction of `2^M` or more carries into the exponent field. -/
theorem Fmt.mk_carry (s : Bool) (exp : Nat) {m : Nat} (hm : 2 ^ F.fracBits ≤ m) :
    F.mk s exp m = F.mk s (exp + 1) (m - 2 ^ F.fracBits) := by
  unfold Fmt.mk
  congr 1
  rw [add_one_mul]
  omega

/-! ### Values -/

theorem Fmt.ratValue_eq (a : F.Pattern) :
    F.ratValue a = signFactor (F.sign a) * (F.significand a * 2 ^ F.exponent a) := by
  rw [Fmt.ratValue, Fmt.value, Exact.toRat_scale]
  cases F.sign a <;> simp [signFactor]

/-- The pattern is finite, of the sign `s`, and denotes the magnitude `v`. -/
structure Fmt.Denotes (a : F.Pattern) (s : Bool) (v : ℚ) : Prop where
  finite : F.finite a = true
  sign : F.sign a = s
  value : F.ratValue a = signFactor s * v

theorem Fmt.denotes_mk_zero (s : Bool) {frac : Nat} (hfrac : frac < 2 ^ F.fracBits) :
    F.Denotes (F.mk s 0 frac) s (frac * 2 ^ (F.emin - F.fracBits)) where
  finite := F.finite_mk s F.expMax_pos hfrac
  sign := F.sign_mk s F.expMax_pos hfrac
  value := by
    simp [F.ratValue_eq, Fmt.significand, Fmt.exponent, F.sign_mk s F.expMax_pos hfrac,
      F.expField_mk s F.expMax_pos hfrac, F.frac_mk s F.expMax_pos hfrac]

theorem Fmt.denotes_mk_succ (s : Bool) {exp frac : Nat} (hexp : exp + 1 < F.expMax) (hfrac : frac < 2 ^ F.fracBits) :
    F.Denotes (F.mk s (exp + 1) frac) s ((2 ^ F.fracBits + frac : Nat) * 2 ^ (exp + F.emin - F.fracBits)) where
  finite := F.finite_mk s hexp hfrac
  sign := F.sign_mk s hexp hfrac
  value := by
    have hexponent : (exp + 1 : Nat) - (F.bias : Int) - F.fracBits = exp + F.emin - F.fracBits := by
      rw [Fmt.emin]
      push_cast
      ring
    rw [F.ratValue_eq, Fmt.significand, Fmt.exponent, F.sign_mk s hexp hfrac, F.expField_mk s hexp hfrac,
      F.frac_mk s hexp hfrac, if_neg exp.succ_ne_zero, if_neg exp.succ_ne_zero, hexponent]

/-- Below `2^(emax + 1)` the exponent field is below that of the infinities. -/
theorem Fmt.exp_lt_expMax {exp : Nat} (h : (2 : ℚ) ^ (exp + F.emin) < 2 ^ (F.emax + 1)) : exp + 1 < F.expMax := by
  have h := two_zpow_lt_iff.mp h
  cases F <;> simp only [Fmt.emin, Fmt.emax, Fmt.bias, Fmt.expMax, Fmt.expBits] at * <;> omega

/-- The pattern `roundF` makes of a rounded significand `m`, which may have carried to `2^(M+1)`, denotes `m` at its scale. -/
theorem Fmt.denotes_mk (s : Bool) {exp m : Nat} (hnormal : exp = 0 ∨ 2 ^ F.fracBits ≤ m) (hm : m ≤ 2 * 2 ^ F.fracBits)
    (hrange : (m : ℚ) * 2 ^ (exp + F.emin - F.fracBits) < 2 ^ (F.emax + 1)) :
    F.Denotes (F.mk s exp m) s (m * 2 ^ (exp + F.emin - F.fracBits)) := by
  rcases lt_or_ge m (2 ^ F.fracBits) with hsub | hnorm
  · obtain rfl := hnormal.resolve_right hsub.not_ge
    simpa using F.denotes_mk_zero s hsub
  have hscale := two_pow_mul_zpow F.fracBits (exp + F.emin)
  have hscale_le : (2 : ℚ) ^ (exp + F.emin) ≤ m * 2 ^ (exp + F.emin - F.fracBits) := by
    rw [← hscale]
    gcongr
    exact_mod_cast hnorm
  rw [F.mk_carry s exp hnorm]
  rcases hm.lt_or_eq with hlt | rfl
  · have := F.denotes_mk_succ s (frac := m - 2 ^ F.fracBits) (F.exp_lt_expMax (hscale_le.trans_lt hrange)) (by omega)
    rwa [add_tsub_cancel_of_le hnorm] at this
  · have hcarry : ((2 * 2 ^ F.fracBits : Nat) : ℚ) * 2 ^ (exp + F.emin - F.fracBits) =
        (2 ^ F.fracBits + 0 : Nat) * 2 ^ ((exp + 1 : Nat) + F.emin - F.fracBits) := by
      push_cast
      rw [mul_assoc, hscale, add_zero, two_pow_mul_zpow, add_right_comm, zpow_add_one₀ two_ne_zero, mul_comm]
    have hexp : exp + 1 + 1 < F.expMax := by
      apply F.exp_lt_expMax
      rw [hcarry] at hrange
      push_cast at hrange ⊢
      rwa [add_zero, two_pow_mul_zpow] at hrange
    rw [F.mk_carry s (exp + 1) (by omega), hcarry]
    have := F.denotes_mk_succ s (frac := 0) hexp (by positivity)
    convert this using 2
    omega

end Sys2Proof.Machine
end

section
/-! PROOFS. Rounding to a format (spec/45_fp_primitives.md rules R377, R378, R379). -/

namespace Sys2Proof.Machine

/-! ### Rounding at a scale -/

section
variable (rm : RoundingMode) (neg : Bool) {n d : Nat} (hd : 0 < d) (q : Int)
include hd

theorem le_quantize {k : Nat} (h : (k : ℚ) * 2 ^ q ≤ n / d) : k ≤ quantize rm neg n d q :=
  le_rintMag rm neg (by positivity) (by rwa [cast_scaled_div, le_div_iff₀ (zpow_pos two_pos q)])

theorem quantize_le {k : Nat} (h : (n : ℚ) / d < k * 2 ^ q) : quantize rm neg n d q ≤ k :=
  rintMag_le rm neg (by positivity) (by rwa [cast_scaled_div, div_lt_iff₀ (zpow_pos two_pos q)])

/-- The rounded value is the value itself when the rounding is exact. -/
theorem quantize_mul_eq_iff : (quantize rm neg n d q : ℚ) * 2 ^ q = n / d ↔ inexactAt n d q = false := by
  rw [← eq_div_iff (zpow_pos two_pos q).ne', ← cast_scaled_div, quantize, rintMag_eq_self_iff rm neg (by positivity)]
  simp [inexactAt]

end

/-- The rounded value of the statement, as the model finds it: sign, magnitude, scale. -/
theorem rint_scaled (rm : RoundingMode) (x : Exact) (k : Int) :
    (rint rm ⟨x.num * 2 ^ (-k).toNat, x.den * 2 ^ k.toNat⟩ : ℚ) * 2 ^ k =
      signFactor (decide (x.num < 0)) * (quantize rm (decide (x.num < 0)) x.num.natAbs x.den k * 2 ^ k) := by
  have hsign : decide (x.num * 2 ^ (-k).toNat < 0) = decide (x.num < 0) := by
    rw [decide_eq_decide]
    exact ⟨fun h => neg_of_mul_neg_left h (by positivity), fun h => mul_neg_of_neg_of_pos h (by positivity)⟩
  rw [rint_eq, hsign, Int.natAbs_mul, Int.natAbs_pow, mul_assoc]
  rfl

theorem overflowResult_eq (F : Fmt) (rm : RoundingMode) (neg : Bool) :
    overflowResult F rm neg =
      if rm = .rne ∨ rm = .rmm ∨ (rm = .rdn ∧ neg = true) ∨ (rm = .rup ∧ neg = false) then F.inf neg
      else F.maxFinite neg := by
  cases rm <;> cases neg <;> simp [overflowResult]

/-- NX of an inexact result, UF beside it of a tiny one. -/
theorem inexactFlags_eq (tiny inexact : Bool) :
    Flags.when (tiny && inexact) Flags.uf ||| Flags.when inexact Flags.nx =
      if inexact = false then Flags.none else if tiny = true then Flags.uf ||| Flags.nx else Flags.nx := by
  cases tiny <;> cases inexact <;> rfl

/-! ### The significand of the result -/

/-- The scale of the last fraction bit of the result, for a number of exponent `e`. -/
def Fmt.lastBit (F : Fmt) (e : Int) : Int := max e F.emin - F.fracBits

/-- The exponent field before a carry, for a number of exponent `e`. -/
def Fmt.fieldBelow (F : Fmt) (e : Int) : Nat := (F.lastBit e - (F.emin - F.fracBits)).toNat

theorem Fmt.lastBit_eq (F : Fmt) (e : Int) : F.lastBit e = F.fieldBelow e + F.emin - F.fracBits := by
  unfold Fmt.fieldBelow Fmt.lastBit
  omega

section
variable (F : Fmt) (rm : RoundingMode) (neg : Bool) {n d : Nat} {e : Int} (hd : 0 < d)
include hd

/-- The rounded significand has its leading 1 unless the result is subnormal. -/
theorem normal_quantize_lastBit (hlo : (2 : ℚ) ^ e ≤ n / d) :
    F.fieldBelow e = 0 ∨ 2 ^ F.fracBits ≤ quantize rm neg n d (F.lastBit e) := by
  rcases le_total e F.emin with h | h
  · left
    simp [Fmt.fieldBelow, Fmt.lastBit, h]
  · right
    apply le_quantize rm neg hd
    rw [Fmt.lastBit, max_eq_left h]
    push_cast
    rwa [two_pow_mul_zpow]

/-- The rounded significand is at most `2^(M+1)`. -/
theorem quantize_lastBit_le (hhi : (n : ℚ) / d < 2 ^ (e + 1)) :
    quantize rm neg n d (F.lastBit e) ≤ 2 * 2 ^ F.fracBits := by
  apply quantize_le rm neg hd
  push_cast
  rw [Fmt.lastBit, mul_assoc, two_pow_mul_zpow, ← zpow_one_add₀ two_ne_zero, add_comm]
  exact hhi.trans_le (two_zpow_le_iff.mpr (by omega))

end

/-! ### The two outcomes -/

/-- The magnitude of the value delivered. -/
def roundedMag (rm : RoundingMode) (x : Exact) (q : Int) : ℚ :=
  quantize rm (decide (x.num < 0)) x.num.natAbs x.den q * 2 ^ q

section
variable (F : Fmt) (rm : RoundingMode) {x : Exact} {e : Int}

/-- `roundF` for a number of exponent `e` (spec/45_fp_primitives.md rule R377). -/
theorem roundF_eq (he : floorLog2 x.num.natAbs x.den = e) :
    roundF F rm x =
      let neg := decide (x.num < 0)
      let m := quantize rm neg x.num.natAbs x.den (F.lastBit e)
      let tiny := !reaches (quantize rm neg x.num.natAbs x.den (e - F.fracBits)) (e - F.fracBits) F.emin
      let inexact := inexactAt x.num.natAbs x.den (F.lastBit e)
      if reaches m (F.lastBit e) (F.emax + 1) then (overflowResult F rm neg, Flags.of ||| Flags.nx)
      else (F.mk neg (F.fieldBelow e) m, Flags.when (tiny && inexact) Flags.uf ||| Flags.when inexact Flags.nx) := by
  subst he
  rfl

theorem roundF_of_overflow (he : floorLog2 x.num.natAbs x.den = e)
    (h : (2 : ℚ) ^ (F.emax + 1) ≤ roundedMag rm x (F.lastBit e)) :
    roundF F rm x = (overflowResult F rm (decide (x.num < 0)), Flags.of ||| Flags.nx) := by
  rw [roundF_eq F rm he]
  exact if_pos ((reaches_iff _ _ _).mpr h)

theorem roundF_of_in_range (he : floorLog2 x.num.natAbs x.den = e)
    (h : roundedMag rm x (F.lastBit e) < (2 : ℚ) ^ (F.emax + 1)) :
    roundF F rm x =
      (F.mk (decide (x.num < 0)) (F.fieldBelow e)
        (quantize rm (decide (x.num < 0)) x.num.natAbs x.den (F.lastBit e)),
       if inexactAt x.num.natAbs x.den (F.lastBit e) = false then Flags.none
       else if roundedMag rm x (e - F.fracBits) < 2 ^ F.emin then Flags.uf ||| Flags.nx else Flags.nx) := by
  have htiny : roundedMag rm x (e - F.fracBits) < 2 ^ F.emin ↔
      (!reaches (quantize rm (decide (x.num < 0)) x.num.natAbs x.den (e - F.fracBits)) (e - F.fracBits) F.emin) = true := by
    rw [Bool.not_eq_true', ← Bool.not_eq_true, reaches_iff, not_le, roundedMag]
  rw [roundF_eq F rm he, if_congr htiny rfl rfl, ← inexactFlags_eq]
  exact if_neg ((reaches_iff _ _ _).not.mpr h.not_ge)

theorem roundedMag_nonneg (q : Int) : 0 ≤ roundedMag rm x q := by
  unfold roundedMag
  positivity

end

/-- Settles O38. In range `roundF` makes a pattern of the rounded significand, which `Fmt.denotes_mk` reads back; out of range
it answers with the result of an overflow. -/
theorem roundToFormat : Obligations.RoundToFormat := by
  unfold Obligations.RoundToFormat
  intro F rm x e hd hnum hlo hhi roundedAt v vu neg r
  rw [x.abs_toRat] at hlo hhi
  have he := floorLog2_eq (Int.natAbs_pos.mpr hnum) hd hlo hhi
  have hrounded (k : Int) : roundedAt k = signFactor neg * roundedMag rm x k := rint_scaled rm x k
  have habs (k : Int) : |roundedAt k| = roundedMag rm x k := by
    rw [hrounded, abs_signFactor_mul, abs_of_nonneg (roundedMag_nonneg rm k)]
  have hv : v = signFactor neg * roundedMag rm x (F.lastBit e) := hrounded _
  rw [habs, habs]
  refine ⟨fun hrange => ?_, fun hrange => ?_⟩
  · have hdenotes := F.denotes_mk neg (normal_quantize_lastBit F rm neg hd hlo) (quantize_lastBit_le F rm neg hd hhi)
      (by rwa [← F.lastBit_eq])
    have hexact : v = x.toRat ↔ inexactAt x.num.natAbs x.den (F.lastBit e) = false := by
      rw [hv, x.toRat_eq, signFactor_mul_inj]
      exact quantize_mul_eq_iff rm neg hd _
    have hr : r = _ := roundF_of_in_range F rm he hrange
    rw [← F.lastBit_eq] at hdenotes
    rw [hr, if_congr hexact rfl rfl]
    exact ⟨hdenotes.finite, hdenotes.value.trans hv.symm, hdenotes.sign, rfl⟩
  · have hr : r = _ := roundF_of_overflow F rm he hrange
    rw [hr]
    exact ⟨rfl, overflowResult_eq F rm neg⟩

end Sys2Proof.Machine
end

section
/-! PROOFS. Data accesses that fail: the instructions of `dataAccess` run the shared checks at its address, and the checks
decide the outcome (spec/20_memory.md rule R88, spec/49_atomics_monitor.md rule R534, spec/60_exceptions.md rules R563, R564). -/

namespace Sys2Proof.Machine

/-! ### The checks -/

theorem State.accessCheck_of_null {s : State} {a : Word} (atomic : Bool) (n : Nat) (h : a.toNat < s.cfg.nullPageSize) :
    s.accessCheck atomic a n = some .nullPageAccess := if_pos h

theorem State.accessCheck_of_misaligned {s : State} {atomic : Bool} {a : Word} {n : Nat}
    (hpage : s.cfg.nullPageSize ≤ a.toNat) (hmust : atomic = true ∨ s.cfg.requireAlignment = true)
    (ha : a.toNat % n ≠ 0) : s.accessCheck atomic a n = some .misalignedAccess := by
  rw [State.accessCheck, if_neg hpage.not_gt, if_pos (by simpa [ha] using hmust)]

/-- Passing the checks is the proposition of the statements. -/
theorem State.accessCheck_eq_none_iff_passes (s : State) (atomic : Bool) (a : Word) (n : Nat) :
    s.accessCheck atomic a n = none ↔ if atomic = true then AtomicPasses s a n else OrdinaryPasses s a n := by
  rw [s.accessCheck_eq_none_iff]
  cases atomic <;> simp [AtomicPasses, OrdinaryPasses]

theorem checked_of_some {atomic : Bool} {a : Word} {n : Nat} {s : State} {c : Cause} (go : State → Result)
    (h : s.accessCheck atomic a n = some c) : checked atomic a n go s = .next (s.halt c a) := by
  rw [checked, h]

theorem access_of_not_allocated {atomic : Bool} {a : Word} {n : Nat} {s : State} (effect : State → State)
    (h : s.accessCheck atomic a n = none) (hn : ¬AllocatedAll s a n) :
    access atomic a n effect s = .fault (.unallocated a) := by
  rw [← s.backed_iff] at hn
  simp only [access, checked, h, onBacked, if_neg hn]

/-- A store-conditional runs the checks of an atomic access first (spec/49_atomics_monitor.md rule R539). -/
theorem storeConditional_eq_checked (n : Nat) (size : MonitorSize) (rd rs2 rs1 : Reg) (s : State) :
    ∃ go, storeConditional n size rd rs2 rs1 s = checked true (s.readX rs1) n go s := by
  unfold storeConditional
  exact ⟨_, rfl⟩

/-! ### The instructions that make an access -/

/-- SC.W or SC.D (spec/49_atomics_monitor.md rules R539, R540). -/
def IsStoreConditional (i : Instr) : Prop :=
  ∃ rd rs2 rs1 aq rl, i = .scW rd rs2 rs1 aq rl ∨ i = .scD rd rs2 rs1 aq rl

section
variable {i : Instr} {s : State} {atomic : Bool} {a : Word} {n : Nat} (h : dataAccess s i = some (atomic, a, n))
include h

/-- Every load, store, load-linked and AMO is an `access`; a store-conditional runs the same checks, then its own effect. -/
theorem exec_of_dataAccess :
    (∃ effect, exec i s = access atomic a n effect s) ∨
      (IsStoreConditional i ∧ ∃ go, exec i s = checked atomic a n go s) := by
  cases i
  case scW rd rs2 rs1 aq rl =>
    cases h
    exact .inr ⟨⟨rd, rs2, rs1, aq, rl, .inl rfl⟩, storeConditional_eq_checked ..⟩
  case scD rd rs2 rs1 aq rl =>
    cases h
    exact .inr ⟨⟨rd, rs2, rs1, aq, rl, .inr rfl⟩, storeConditional_eq_checked ..⟩
  case lb | lh | lw | ld | lbu | lhu | lwu | flw | fld | cLw | cLd | cFld | cLwsp | cLdsp | cFldsp
      | sb | sh | sw | sd | fsw | fsd | cSw | cSd | cFsd | cSwsp | cSdsp | cFsdsp
      | lrW | amoswapW | amoaddW | amoxorW | amoandW | amoorW | amominW | amomaxW | amominuW | amomaxuW
      | lrD | amoswapD | amoaddD | amoxorD | amoandD | amoorD | amominD | amomaxD | amominuD | amomaxuD =>
    cases h
    exact .inl ⟨_, rfl⟩
  all_goals cases h

theorem exec_eq_checked : ∃ go, exec i s = checked atomic a n go s := by
  rcases exec_of_dataAccess h with ⟨_, e⟩ | ⟨-, e⟩
  · exact ⟨_, e⟩
  · exact e

/-- A failing check halts the hart with the start address and has no other effect (spec/60_exceptions.md rule R570). -/
theorem exec_of_failed_check {c : Cause} (hc : s.accessCheck atomic a n = some c) : exec i s = .next (s.halt c a) := by
  obtain ⟨go, e⟩ := exec_eq_checked h
  rw [e, checked_of_some go hc]

end

/-- Settles O16. Each clause is a value of the check of the access; where the check passes, all but the store-conditionals go
on to an effect on backed bytes. -/
theorem accessFaults : Obligations.AccessFaults := by
  unfold Obligations.AccessFaults
  intro i s atomic a n h
  refine ⟨fun hnull => ?_, fun hpage hmust ha => ?_, fun hpasses hn hsc => ?_⟩
  · exact exec_of_failed_check h (State.accessCheck_of_null atomic n hnull)
  · exact exec_of_failed_check h (State.accessCheck_of_misaligned hpage hmust ha)
  · rcases exec_of_dataAccess h with ⟨effect, e⟩ | ⟨⟨rd, rs2, rs1, aq, rl, hi⟩, -⟩
    · rw [e, access_of_not_allocated effect ((s.accessCheck_eq_none_iff_passes atomic a n).mpr hpasses) hn]
    · exact absurd hi (not_or.mpr (hsc rd rs2 rs1 aq rl))

end Sys2Proof.Machine
end

section
/-! PROOFS. The formats of the encoding: the fields the decoder reads are those the encoder wrote, and a word is made of its
fields (spec/30_encoding.md rules R122 to R124, R134, R142, R143). -/

namespace Sys2Proof

open BitVec

/-! ### Operands that are multiples -/

theorem extractLsb'_zero_beq_iff {n : Nat} (v : BitVec n) (k : Nat) :
    (v.extractLsb' 0 k == 0#k) = true ↔ ∀ i < k, v.getLsbD i = false := by
  rw [beq_iff_eq, BitVec.eq_of_getLsbD_eq_iff]
  refine forall_congr' fun i => forall_congr' fun hi => ?_
  simp [hi]

/-- The assembled immediates end in the zeros their multiple asks for. -/
theorem append_zero_low {n : Nat} (v : BitVec n) (k : Nat) : ((v ++ 0#k).extractLsb' 0 k == 0#k) = true := by
  rw [extractLsb'_zero_beq_iff]
  intro i hi
  simp [getLsbD_append, hi]

/-! ### The 32-bit formats -/

section
variable (w : BitVec 32)

theorem encR_fields : encR (fieldFunct7 w) (fieldRs2 w) (fieldRs1 w) (fieldFunct3 w) (fieldRd w) (fieldOpcode w) = w := by
  simp (disch := decide) only [encR, fieldFunct7, fieldRs2, fieldRs1, fieldFunct3, fieldRd, fieldOpcode,
    extractLsb'_append_extractLsb'_eq_extractLsb',
    extractLsb'_eq_self]

theorem encI_fields : encI (immI w) (fieldRs1 w) (fieldFunct3 w) (fieldRd w) (fieldOpcode w) = w := by
  simp (disch := decide) only [encI, immI, fieldRs1, fieldFunct3, fieldRd, fieldOpcode,
    extractLsb'_append_extractLsb'_eq_extractLsb', extractLsb'_eq_self]

theorem encS_fields : encS (immS w) (fieldRs2 w) (fieldRs1 w) (fieldFunct3 w) (fieldOpcode w) = w := by
  simp (disch := decide) only [encS, immS, fieldRs2, fieldRs1, fieldFunct3, fieldOpcode, extractLsb'_append_eq_of_le,
    extractLsb'_append_eq_of_add_le, extractLsb'_append_extractLsb'_eq_extractLsb', extractLsb'_eq_self, Nat.reduceSub]

theorem encB_fields : encB (immB w) (fieldRs2 w) (fieldRs1 w) (fieldFunct3 w) (fieldOpcode w) = w := by
  simp (disch := decide) only [encB, immB, fieldRs2, fieldRs1, fieldFunct3, fieldOpcode, extractLsb'_append_eq_of_le,
    extractLsb'_append_eq_of_add_le, extractLsb'_append_extractLsb'_eq_extractLsb', extractLsb'_eq_self, Nat.reduceSub]

theorem encU_fields : encU (immU w) (fieldRd w) (fieldOpcode w) = w := by
  simp (disch := decide) only [encU, immU, fieldRd, fieldOpcode,
    extractLsb'_append_extractLsb'_eq_extractLsb', extractLsb'_eq_self]

theorem encJ_fields : encJ (immJ w) (fieldRd w) (fieldOpcode w) = w := by
  simp (disch := decide) only [encJ, immJ, fieldRd, fieldOpcode, extractLsb'_append_eq_of_le,
    extractLsb'_append_eq_of_add_le, extractLsb'_append_extractLsb'_eq_extractLsb', extractLsb'_eq_self, Nat.reduceSub]

theorem encR4_fields :
    encR4 (fieldRs3 w) (fieldFmt w) (fieldRs2 w) (fieldRs1 w) (fieldFunct3 w) (fieldRd w) (fieldOpcode w) = w := by
  simp (disch := decide) only [encR4, fieldRs3, fieldFmt, fieldRs2, fieldRs1, fieldFunct3, fieldRd, fieldOpcode,
    extractLsb'_append_extractLsb'_eq_extractLsb',
    extractLsb'_eq_self]

theorem encShift6_fields :
    encShift6 (fieldFunct6 w) (fieldShamt6 w) (fieldRs1 w) (fieldFunct3 w) (fieldRd w) (fieldOpcode w) = w := by
  simp (disch := decide) only [encShift6, fieldFunct6, fieldShamt6, fieldRs1, fieldFunct3, fieldRd, fieldOpcode,
    extractLsb'_append_extractLsb'_eq_extractLsb',
    extractLsb'_eq_self]

theorem encAmo_fields (hop : fieldOpcode w = 0b0101111#7) :
    encAmo (fieldFunct5 w) (fieldAq w) (fieldRl w) (fieldRs2 w) (fieldRs1 w) (fieldFunct3 w) (fieldRd w) = w := by
  simp (disch := decide) only [encAmo, ← hop, fieldFunct5, fieldAq, fieldRl, fieldRs2, fieldRs1, fieldFunct3, fieldRd,
    fieldOpcode,
    extractLsb'_append_extractLsb'_eq_extractLsb', extractLsb'_eq_self]

end

section
variable (rs3 rs2 rs1 rd : Reg) (funct3 : BitVec 3) (opcode : BitVec 7)

@[simp] theorem fields_encR (funct7 : BitVec 7) :
    fieldFunct7 (encR funct7 rs2 rs1 funct3 rd opcode) = funct7 ∧ fieldRs2 (encR funct7 rs2 rs1 funct3 rd opcode) = rs2 ∧
    fieldRs1 (encR funct7 rs2 rs1 funct3 rd opcode) = rs1 ∧ fieldFunct3 (encR funct7 rs2 rs1 funct3 rd opcode) = funct3 ∧
    fieldRd (encR funct7 rs2 rs1 funct3 rd opcode) = rd ∧ fieldOpcode (encR funct7 rs2 rs1 funct3 rd opcode) = opcode := by
  simp (disch := decide) only [encR, fieldFunct7, fieldRs2, fieldRs1, fieldFunct3, fieldRd, fieldOpcode,
    extractLsb'_append_eq_of_le, extractLsb'_append_eq_of_add_le, extractLsb'_eq_self, Nat.reduceSub, and_self_iff]

@[simp] theorem fields_encI (imm : BitVec 12) :
    immI (encI imm rs1 funct3 rd opcode) = imm ∧ fieldRs1 (encI imm rs1 funct3 rd opcode) = rs1 ∧
    fieldFunct3 (encI imm rs1 funct3 rd opcode) = funct3 ∧ fieldRd (encI imm rs1 funct3 rd opcode) = rd ∧
    fieldOpcode (encI imm rs1 funct3 rd opcode) = opcode := by
  simp (disch := decide) only [encI, immI, fieldRs1, fieldFunct3, fieldRd, fieldOpcode, extractLsb'_append_eq_of_le,
    extractLsb'_append_eq_of_add_le, extractLsb'_eq_self, Nat.reduceSub, and_self_iff]

@[simp] theorem fields_encS (imm : BitVec 12) :
    immS (encS imm rs2 rs1 funct3 opcode) = imm ∧ fieldRs2 (encS imm rs2 rs1 funct3 opcode) = rs2 ∧
    fieldRs1 (encS imm rs2 rs1 funct3 opcode) = rs1 ∧ fieldFunct3 (encS imm rs2 rs1 funct3 opcode) = funct3 ∧
    fieldOpcode (encS imm rs2 rs1 funct3 opcode) = opcode := by
  simp (disch := decide) only [encS, immS, fieldRs2, fieldRs1, fieldFunct3, fieldOpcode, extractLsb'_append_eq_of_le,
    extractLsb'_append_eq_of_add_le, extractLsb'_append_extractLsb'_eq_extractLsb', extractLsb'_eq_self, Nat.reduceSub,
    and_self_iff]

@[simp] theorem fields_encB (imm : BitVec 13) :
    fieldRs2 (encB imm rs2 rs1 funct3 opcode) = rs2 ∧
    fieldRs1 (encB imm rs2 rs1 funct3 opcode) = rs1 ∧ fieldFunct3 (encB imm rs2 rs1 funct3 opcode) = funct3 ∧
    fieldOpcode (encB imm rs2 rs1 funct3 opcode) = opcode := by
  simp (disch := decide) only [encB, fieldRs2, fieldRs1, fieldFunct3, fieldOpcode, extractLsb'_append_eq_of_le,
    extractLsb'_append_eq_of_add_le, extractLsb'_eq_self, Nat.reduceSub, and_self_iff]

@[simp] theorem immB_encB {imm : BitVec 13} (h : WellFormed.even imm = true) :
    immB (encB imm rs2 rs1 funct3 opcode) = imm := by
  have hlow : 0#1 = imm.extractLsb' 0 1 := (beq_iff_eq.mp h).symm
  simp (disch := decide) only [encB, immB, hlow, extractLsb'_append_eq_of_le, extractLsb'_append_eq_of_add_le,
    extractLsb'_append_extractLsb'_eq_extractLsb', extractLsb'_eq_self, Nat.reduceSub]

@[simp] theorem fields_encU (imm : BitVec 20) :
    immU (encU imm rd opcode) = imm ∧ fieldRd (encU imm rd opcode) = rd ∧ fieldOpcode (encU imm rd opcode) = opcode := by
  simp (disch := decide) only [encU, immU, fieldRd, fieldOpcode, extractLsb'_append_eq_of_le,
    extractLsb'_append_eq_of_add_le, extractLsb'_eq_self, Nat.reduceSub, and_self_iff]

@[simp] theorem fields_encJ (imm : BitVec 21) :
    fieldRd (encJ imm rd opcode) = rd ∧ fieldOpcode (encJ imm rd opcode) = opcode := by
  simp (disch := decide) only [encJ, fieldRd, fieldOpcode, extractLsb'_append_eq_of_le, extractLsb'_append_eq_of_add_le,
    extractLsb'_eq_self, Nat.reduceSub, and_self_iff]

@[simp] theorem immJ_encJ {imm : BitVec 21} (h : WellFormed.even imm = true) : immJ (encJ imm rd opcode) = imm := by
  have hlow : 0#1 = imm.extractLsb' 0 1 := (beq_iff_eq.mp h).symm
  simp (disch := decide) only [encJ, immJ, hlow, extractLsb'_append_eq_of_le, extractLsb'_append_eq_of_add_le,
    extractLsb'_append_extractLsb'_eq_extractLsb', extractLsb'_eq_self, Nat.reduceSub]

@[simp] theorem fields_encR4 (fmt : BitVec 2) :
    fieldRs3 (encR4 rs3 fmt rs2 rs1 funct3 rd opcode) = rs3 ∧ fieldFmt (encR4 rs3 fmt rs2 rs1 funct3 rd opcode) = fmt ∧
    fieldRs2 (encR4 rs3 fmt rs2 rs1 funct3 rd opcode) = rs2 ∧ fieldRs1 (encR4 rs3 fmt rs2 rs1 funct3 rd opcode) = rs1 ∧
    fieldFunct3 (encR4 rs3 fmt rs2 rs1 funct3 rd opcode) = funct3 ∧
    fieldRd (encR4 rs3 fmt rs2 rs1 funct3 rd opcode) = rd ∧
    fieldOpcode (encR4 rs3 fmt rs2 rs1 funct3 rd opcode) = opcode := by
  simp (disch := decide) only [encR4, fieldRs3, fieldFmt, fieldRs2, fieldRs1, fieldFunct3, fieldRd, fieldOpcode,
    extractLsb'_append_eq_of_le, extractLsb'_append_eq_of_add_le, extractLsb'_eq_self, Nat.reduceSub, and_self_iff]

@[simp] theorem fields_encShift6 (funct6 shamt : BitVec 6) :
    fieldFunct6 (encShift6 funct6 shamt rs1 funct3 rd opcode) = funct6 ∧
    fieldShamt6 (encShift6 funct6 shamt rs1 funct3 rd opcode) = shamt ∧
    fieldRs1 (encShift6 funct6 shamt rs1 funct3 rd opcode) = rs1 ∧
    fieldFunct3 (encShift6 funct6 shamt rs1 funct3 rd opcode) = funct3 ∧
    fieldRd (encShift6 funct6 shamt rs1 funct3 rd opcode) = rd ∧
    fieldOpcode (encShift6 funct6 shamt rs1 funct3 rd opcode) = opcode := by
  simp (disch := decide) only [encShift6, fieldFunct6, fieldShamt6, fieldRs1, fieldFunct3, fieldRd, fieldOpcode,
    extractLsb'_append_eq_of_le, extractLsb'_append_eq_of_add_le, extractLsb'_eq_self, Nat.reduceSub, and_self_iff]

@[simp] theorem fields_encAmo (funct5 : BitVec 5) (aq rl : BitVec 1) :
    fieldFunct5 (encAmo funct5 aq rl rs2 rs1 funct3 rd) = funct5 ∧ fieldAq (encAmo funct5 aq rl rs2 rs1 funct3 rd) = aq ∧
    fieldRl (encAmo funct5 aq rl rs2 rs1 funct3 rd) = rl ∧ fieldRs2 (encAmo funct5 aq rl rs2 rs1 funct3 rd) = rs2 ∧
    fieldRs1 (encAmo funct5 aq rl rs2 rs1 funct3 rd) = rs1 ∧
    fieldFunct3 (encAmo funct5 aq rl rs2 rs1 funct3 rd) = funct3 ∧ fieldRd (encAmo funct5 aq rl rs2 rs1 funct3 rd) = rd ∧
    fieldOpcode (encAmo funct5 aq rl rs2 rs1 funct3 rd) = 0b0101111#7 := by
  simp (disch := decide) only [encAmo, fieldFunct5, fieldAq, fieldRl, fieldRs2, fieldRs1, fieldFunct3, fieldRd, fieldOpcode,
    extractLsb'_append_eq_of_le, extractLsb'_append_eq_of_add_le, extractLsb'_eq_self, Nat.reduceSub, and_self_iff]

end

/-! ### The 16-bit formats -/

section
variable (h : BitVec 16)

theorem encCr_fields (hop : h.extractLsb' 0 2 = 0b10#2) : 
    encCr (h.extractLsb' 13 3 ++ h.extractLsb' 12 1) (cFieldRd h) (cFieldRs2 h) = h := by
  simp (disch := decide) only [encCr, ← hop, cFieldRd, cFieldRs2,
    extractLsb'_append_extractLsb'_eq_extractLsb', extractLsb'_eq_self]

theorem encCi_fields : encCi (h.extractLsb' 13 3) (immCi h) (cFieldRd h) (h.extractLsb' 0 2) = h := by
  simp (disch := decide) only [encCi, immCi, cFieldRd, extractLsb'_append_eq_of_le, extractLsb'_append_eq_of_add_le,
    extractLsb'_append_extractLsb'_eq_extractLsb', extractLsb'_eq_self, Nat.reduceSub]

theorem encCi16sp_fields (hop : h.extractLsb' 0 2 = 0b01#2) (hf : h.extractLsb' 13 3 = 0b011#3) (hrd : cFieldRd h = 2#5) :
    encCi16sp (immAddi16sp h) = h := by
  simp (disch := decide) only [encCi16sp, ← hop, ← hf, ← hrd, cFieldRd, immAddi16sp, extractLsb'_append_eq_of_le,
    extractLsb'_append_eq_of_add_le, extractLsb'_append_extractLsb'_eq_extractLsb', extractLsb'_eq_self, Nat.reduceSub]

theorem encCiWsp_fields (hop : h.extractLsb' 0 2 = 0b10#2) :
    encCiWsp (h.extractLsb' 13 3) (immLwsp h) (cFieldRd h) = h := by
  simp (disch := decide) only [encCiWsp, ← hop, immLwsp, cFieldRd, extractLsb'_append_eq_of_le,
    extractLsb'_append_eq_of_add_le, extractLsb'_append_extractLsb'_eq_extractLsb', extractLsb'_eq_self, Nat.reduceSub]

theorem encCiDsp_fields (hop : h.extractLsb' 0 2 = 0b10#2) :
    encCiDsp (h.extractLsb' 13 3) (immLdsp h) (cFieldRd h) = h := by
  simp (disch := decide) only [encCiDsp, ← hop, immLdsp, cFieldRd, extractLsb'_append_eq_of_le,
    extractLsb'_append_eq_of_add_le, extractLsb'_append_extractLsb'_eq_extractLsb', extractLsb'_eq_self, Nat.reduceSub]

theorem encCssW_fields (hop : h.extractLsb' 0 2 = 0b10#2) :
    encCssW (h.extractLsb' 13 3) (immSwsp h) (cFieldRs2 h) = h := by
  simp (disch := decide) only [encCssW, ← hop, immSwsp, cFieldRs2, extractLsb'_append_eq_of_le,
    extractLsb'_append_eq_of_add_le, extractLsb'_append_extractLsb'_eq_extractLsb', extractLsb'_eq_self, Nat.reduceSub]

theorem encCssD_fields (hop : h.extractLsb' 0 2 = 0b10#2) :
    encCssD (h.extractLsb' 13 3) (immSdsp h) (cFieldRs2 h) = h := by
  simp (disch := decide) only [encCssD, ← hop, immSdsp, cFieldRs2, extractLsb'_append_eq_of_le,
    extractLsb'_append_eq_of_add_le, extractLsb'_append_extractLsb'_eq_extractLsb', extractLsb'_eq_self, Nat.reduceSub]

theorem encCiw_fields (hop : h.extractLsb' 0 2 = 0b00#2) (hf : h.extractLsb' 13 3 = 0b000#3) :
    encCiw (immAddi4spn h) (cFieldRd' h) = h := by
  simp (disch := decide) only [encCiw, ← hop, ← hf, immAddi4spn, cFieldRd', extractLsb'_append_eq_of_le,
    extractLsb'_append_eq_of_add_le, extractLsb'_append_extractLsb'_eq_extractLsb', extractLsb'_eq_self, Nat.reduceSub]

theorem encClW_fields (hop : h.extractLsb' 0 2 = 0b00#2) :
    encClW (h.extractLsb' 13 3) (immClW h) (cFieldRs1' h) (cFieldRd' h) = h := by
  simp (disch := decide) only [encClW, ← hop, immClW, cFieldRs1', cFieldRd', extractLsb'_append_eq_of_le,
    extractLsb'_append_eq_of_add_le, extractLsb'_append_extractLsb'_eq_extractLsb', extractLsb'_eq_self, Nat.reduceSub]

theorem encClD_fields (hop : h.extractLsb' 0 2 = 0b00#2) :
    encClD (h.extractLsb' 13 3) (immClD h) (cFieldRs1' h) (cFieldRd' h) = h := by
  simp (disch := decide) only [encClD, ← hop, immClD, cFieldRs1', cFieldRd', extractLsb'_append_eq_of_le,
    extractLsb'_append_eq_of_add_le, extractLsb'_append_extractLsb'_eq_extractLsb', extractLsb'_eq_self, Nat.reduceSub]

theorem encCa_fields (hop : h.extractLsb' 0 2 = 0b01#2) :
    encCa (h.extractLsb' 13 3 ++ h.extractLsb' 12 1 ++ h.extractLsb' 10 2) (h.extractLsb' 5 2) (cFieldRd' h)
        (cFieldRs1' h) = h := by
  simp (disch := decide) only [encCa, ← hop, cFieldRs1', cFieldRd',
    extractLsb'_append_extractLsb'_eq_extractLsb', extractLsb'_eq_self]

theorem encCbImm_fields (hop : h.extractLsb' 0 2 = 0b01#2) (hf : h.extractLsb' 13 3 = 0b100#3) :
    encCbImm (h.extractLsb' 10 2) (immCi h) (cFieldRs1' h) = h := by
  simp (disch := decide) only [encCbImm, ← hop, ← hf, immCi, cFieldRs1', extractLsb'_append_eq_of_le,
    extractLsb'_append_eq_of_add_le, extractLsb'_append_extractLsb'_eq_extractLsb', extractLsb'_eq_self, Nat.reduceSub]

theorem encCb_fields (hop : h.extractLsb' 0 2 = 0b01#2) : encCb (h.extractLsb' 13 3) (immCb h) (cFieldRs1' h) = h := by
  simp (disch := decide) only [encCb, ← hop, immCb, cFieldRs1', extractLsb'_append_eq_of_le,
    extractLsb'_append_eq_of_add_le, extractLsb'_append_extractLsb'_eq_extractLsb', extractLsb'_eq_self, Nat.reduceSub]

theorem encCj_fields (hop : h.extractLsb' 0 2 = 0b01#2) (hf : h.extractLsb' 13 3 = 0b101#3) : encCj (immCj h) = h := by
  simp (disch := decide) only [encCj, ← hop, ← hf, immCj, extractLsb'_append_eq_of_le, extractLsb'_append_eq_of_add_le,
    extractLsb'_append_extractLsb'_eq_extractLsb', extractLsb'_eq_self, Nat.reduceSub]

end

@[simp] theorem fields_encCr (funct4 : BitVec 4) (rd rs2 : Reg) :
    (encCr funct4 rd rs2).extractLsb' 13 3 = funct4.extractLsb' 1 3 ∧
    (encCr funct4 rd rs2).extractLsb' 12 1 = funct4.extractLsb' 0 1 ∧
    cFieldRd (encCr funct4 rd rs2) = rd ∧ cFieldRs2 (encCr funct4 rd rs2) = rs2 ∧
    (encCr funct4 rd rs2).extractLsb' 0 2 = 0b10#2 := by
  simp (disch := decide) only [encCr, cFieldRd, cFieldRs2, extractLsb'_append_eq_of_le, extractLsb'_append_eq_of_add_le,
    extractLsb'_eq_self, Nat.reduceSub, and_self_iff]

@[simp] theorem fields_encCi (funct3 : BitVec 3) (imm : BitVec 6) (rd : Reg) (op : BitVec 2) :
    (encCi funct3 imm rd op).extractLsb' 13 3 = funct3 ∧ immCi (encCi funct3 imm rd op) = imm ∧
    cFieldRd (encCi funct3 imm rd op) = rd ∧ (encCi funct3 imm rd op).extractLsb' 0 2 = op := by
  simp (disch := decide) only [encCi, immCi, cFieldRd, extractLsb'_append_eq_of_le, extractLsb'_append_eq_of_add_le,
    extractLsb'_append_extractLsb'_eq_extractLsb', extractLsb'_eq_self, Nat.reduceSub, and_self_iff]

@[simp] theorem fields_encCi16sp (nzimm : BitVec 10) :
    (encCi16sp nzimm).extractLsb' 13 3 = 0b011#3 ∧ cFieldRd (encCi16sp nzimm) = 2#5 ∧
    (encCi16sp nzimm).extractLsb' 0 2 = 0b01#2 := by
  simp (disch := decide) only [encCi16sp, cFieldRd, extractLsb'_append_eq_of_le, extractLsb'_append_eq_of_add_le,
    extractLsb'_eq_self, Nat.reduceSub, and_self_iff]

@[simp] theorem immAddi16sp_encCi16sp {nzimm : BitVec 10} (h : WellFormed.low4 nzimm = true) :
    immAddi16sp (encCi16sp nzimm) = nzimm := by
  have hlow : 0#4 = nzimm.extractLsb' 0 4 := (beq_iff_eq.mp h).symm
  simp (disch := decide) only [encCi16sp, immAddi16sp, hlow, extractLsb'_append_eq_of_le, extractLsb'_append_eq_of_add_le,
    extractLsb'_append_extractLsb'_eq_extractLsb', extractLsb'_eq_self, Nat.reduceSub]

/-- The two immediates that share the format of C.ADDI16SP and C.LUI are zero together. -/
theorem immAddi16sp_eq_zero_iff (h : BitVec 16) : immAddi16sp h = 0#10 ↔ immCi h = 0#6 := by
  simp only [eq_of_getLsbD_eq_iff, immAddi16sp, immCi, getLsbD_append, getLsbD_extractLsb', getLsbD_zero]
  constructor <;> intro hz i hi <;> interval_cases i
  · simpa using hz 5
  · simpa using hz 7
  · simpa using hz 8
  · simpa using hz 6
  · simpa using hz 4
  · simpa using hz 9
  · simp
  · simp
  · simp
  · simp
  · simpa using hz 4
  · simpa using hz 0
  · simpa using hz 3
  · simpa using hz 1
  · simpa using hz 2
  · simpa using hz 5

@[simp] theorem fields_encCiWsp (funct3 : BitVec 3) (uimm : BitVec 8) (rd : Reg) :
    (encCiWsp funct3 uimm rd).extractLsb' 13 3 = funct3 ∧ cFieldRd (encCiWsp funct3 uimm rd) = rd ∧
    (encCiWsp funct3 uimm rd).extractLsb' 0 2 = 0b10#2 := by
  simp (disch := decide) only [encCiWsp, cFieldRd, extractLsb'_append_eq_of_le, extractLsb'_append_eq_of_add_le,
    extractLsb'_eq_self, Nat.reduceSub, and_self_iff]

@[simp] theorem immLwsp_encCiWsp (funct3 : BitVec 3) {uimm : BitVec 8} (h : WellFormed.low2 uimm = true) (rd : Reg) :
    immLwsp (encCiWsp funct3 uimm rd) = uimm := by
  have hlow : 0#2 = uimm.extractLsb' 0 2 := (beq_iff_eq.mp h).symm
  simp (disch := decide) only [encCiWsp, immLwsp, hlow, extractLsb'_append_eq_of_le, extractLsb'_append_eq_of_add_le,
    extractLsb'_append_extractLsb'_eq_extractLsb', extractLsb'_eq_self, Nat.reduceSub]

@[simp] theorem fields_encCiDsp (funct3 : BitVec 3) (uimm : BitVec 9) (rd : Reg) :
    (encCiDsp funct3 uimm rd).extractLsb' 13 3 = funct3 ∧ cFieldRd (encCiDsp funct3 uimm rd) = rd ∧
    (encCiDsp funct3 uimm rd).extractLsb' 0 2 = 0b10#2 := by
  simp (disch := decide) only [encCiDsp, cFieldRd, extractLsb'_append_eq_of_le, extractLsb'_append_eq_of_add_le,
    extractLsb'_eq_self, Nat.reduceSub, and_self_iff]

@[simp] theorem immLdsp_encCiDsp (funct3 : BitVec 3) {uimm : BitVec 9} (h : WellFormed.low3 uimm = true) (rd : Reg) :
    immLdsp (encCiDsp funct3 uimm rd) = uimm := by
  have hlow : 0#3 = uimm.extractLsb' 0 3 := (beq_iff_eq.mp h).symm
  simp (disch := decide) only [encCiDsp, immLdsp, hlow, extractLsb'_append_eq_of_le, extractLsb'_append_eq_of_add_le,
    extractLsb'_append_extractLsb'_eq_extractLsb', extractLsb'_eq_self, Nat.reduceSub]

@[simp] theorem fields_encCssW (funct3 : BitVec 3) (uimm : BitVec 8) (rs2 : Reg) :
    (encCssW funct3 uimm rs2).extractLsb' 13 3 = funct3 ∧ cFieldRs2 (encCssW funct3 uimm rs2) = rs2 ∧
    (encCssW funct3 uimm rs2).extractLsb' 0 2 = 0b10#2 := by
  simp (disch := decide) only [encCssW, cFieldRs2, extractLsb'_append_eq_of_le, extractLsb'_append_eq_of_add_le,
    extractLsb'_eq_self, Nat.reduceSub, and_self_iff]

@[simp] theorem immSwsp_encCssW (funct3 : BitVec 3) {uimm : BitVec 8} (h : WellFormed.low2 uimm = true) (rs2 : Reg) :
    immSwsp (encCssW funct3 uimm rs2) = uimm := by
  have hlow : 0#2 = uimm.extractLsb' 0 2 := (beq_iff_eq.mp h).symm
  simp (disch := decide) only [encCssW, immSwsp, hlow, extractLsb'_append_eq_of_le, extractLsb'_append_eq_of_add_le,
    extractLsb'_append_extractLsb'_eq_extractLsb', extractLsb'_eq_self, Nat.reduceSub]

@[simp] theorem fields_encCssD (funct3 : BitVec 3) (uimm : BitVec 9) (rs2 : Reg) :
    (encCssD funct3 uimm rs2).extractLsb' 13 3 = funct3 ∧ cFieldRs2 (encCssD funct3 uimm rs2) = rs2 ∧
    (encCssD funct3 uimm rs2).extractLsb' 0 2 = 0b10#2 := by
  simp (disch := decide) only [encCssD, cFieldRs2, extractLsb'_append_eq_of_le, extractLsb'_append_eq_of_add_le,
    extractLsb'_eq_self, Nat.reduceSub, and_self_iff]

@[simp] theorem immSdsp_encCssD (funct3 : BitVec 3) {uimm : BitVec 9} (h : WellFormed.low3 uimm = true) (rs2 : Reg) :
    immSdsp (encCssD funct3 uimm rs2) = uimm := by
  have hlow : 0#3 = uimm.extractLsb' 0 3 := (beq_iff_eq.mp h).symm
  simp (disch := decide) only [encCssD, immSdsp, hlow, extractLsb'_append_eq_of_le, extractLsb'_append_eq_of_add_le,
    extractLsb'_append_extractLsb'_eq_extractLsb', extractLsb'_eq_self, Nat.reduceSub]

@[simp] theorem fields_encCiw (nzuimm : BitVec 10) (rd : CReg) :
    (encCiw nzuimm rd).extractLsb' 13 3 = 0b000#3 ∧ cFieldRd' (encCiw nzuimm rd) = rd ∧
    (encCiw nzuimm rd).extractLsb' 0 2 = 0b00#2 := by
  simp (disch := decide) only [encCiw, cFieldRd', extractLsb'_append_eq_of_le, extractLsb'_append_eq_of_add_le,
    extractLsb'_eq_self, Nat.reduceSub, and_self_iff]

@[simp] theorem immAddi4spn_encCiw {nzuimm : BitVec 10} (h : WellFormed.low2 nzuimm = true) (rd : CReg) :
    immAddi4spn (encCiw nzuimm rd) = nzuimm := by
  have hlow : 0#2 = nzuimm.extractLsb' 0 2 := (beq_iff_eq.mp h).symm
  simp (disch := decide) only [encCiw, immAddi4spn, hlow, extractLsb'_append_eq_of_le, extractLsb'_append_eq_of_add_le,
    extractLsb'_append_extractLsb'_eq_extractLsb', extractLsb'_eq_self, Nat.reduceSub]

@[simp] theorem fields_encClW (funct3 : BitVec 3) (uimm : BitVec 7) (rs1 r : CReg) :
    (encClW funct3 uimm rs1 r).extractLsb' 13 3 = funct3 ∧ cFieldRs1' (encClW funct3 uimm rs1 r) = rs1 ∧
    cFieldRd' (encClW funct3 uimm rs1 r) = r ∧ (encClW funct3 uimm rs1 r).extractLsb' 0 2 = 0b00#2 := by
  simp (disch := decide) only [encClW, cFieldRs1', cFieldRd', extractLsb'_append_eq_of_le, extractLsb'_append_eq_of_add_le,
    extractLsb'_eq_self, Nat.reduceSub, and_self_iff]

@[simp] theorem immClW_encClW (funct3 : BitVec 3) {uimm : BitVec 7} (h : WellFormed.low2 uimm = true) (rs1 r : CReg) :
    immClW (encClW funct3 uimm rs1 r) = uimm := by
  have hlow : 0#2 = uimm.extractLsb' 0 2 := (beq_iff_eq.mp h).symm
  simp (disch := decide) only [encClW, immClW, hlow, extractLsb'_append_eq_of_le, extractLsb'_append_eq_of_add_le,
    extractLsb'_append_extractLsb'_eq_extractLsb', extractLsb'_eq_self, Nat.reduceSub]

@[simp] theorem fields_encClD (funct3 : BitVec 3) (uimm : BitVec 8) (rs1 r : CReg) :
    (encClD funct3 uimm rs1 r).extractLsb' 13 3 = funct3 ∧ cFieldRs1' (encClD funct3 uimm rs1 r) = rs1 ∧
    cFieldRd' (encClD funct3 uimm rs1 r) = r ∧ (encClD funct3 uimm rs1 r).extractLsb' 0 2 = 0b00#2 := by
  simp (disch := decide) only [encClD, cFieldRs1', cFieldRd', extractLsb'_append_eq_of_le, extractLsb'_append_eq_of_add_le,
    extractLsb'_eq_self, Nat.reduceSub, and_self_iff]

@[simp] theorem immClD_encClD (funct3 : BitVec 3) {uimm : BitVec 8} (h : WellFormed.low3 uimm = true) (rs1 r : CReg) :
    immClD (encClD funct3 uimm rs1 r) = uimm := by
  have hlow : 0#3 = uimm.extractLsb' 0 3 := (beq_iff_eq.mp h).symm
  simp (disch := decide) only [encClD, immClD, hlow, extractLsb'_append_eq_of_le, extractLsb'_append_eq_of_add_le,
    extractLsb'_append_extractLsb'_eq_extractLsb', extractLsb'_eq_self, Nat.reduceSub]

@[simp] theorem fields_encCa (funct6 : BitVec 6) (funct2 : BitVec 2) (rs2 rd : CReg) :
    (encCa funct6 funct2 rs2 rd).extractLsb' 13 3 = funct6.extractLsb' 3 3 ∧
    (encCa funct6 funct2 rs2 rd).extractLsb' 12 1 = funct6.extractLsb' 2 1 ∧
    (encCa funct6 funct2 rs2 rd).extractLsb' 10 2 = funct6.extractLsb' 0 2 ∧
    (encCa funct6 funct2 rs2 rd).extractLsb' 5 2 = funct2 ∧ cFieldRs1' (encCa funct6 funct2 rs2 rd) = rd ∧
    cFieldRd' (encCa funct6 funct2 rs2 rd) = rs2 ∧ (encCa funct6 funct2 rs2 rd).extractLsb' 0 2 = 0b01#2 := by
  simp (disch := decide) only [encCa, cFieldRs1', cFieldRd', extractLsb'_append_eq_of_le, extractLsb'_append_eq_of_add_le,
    extractLsb'_eq_self, Nat.reduceSub, and_self_iff]

@[simp] theorem fields_encCbImm (funct2 : BitVec 2) (imm : BitVec 6) (rd : CReg) :
    (encCbImm funct2 imm rd).extractLsb' 13 3 = 0b100#3 ∧ (encCbImm funct2 imm rd).extractLsb' 10 2 = funct2 ∧
    immCi (encCbImm funct2 imm rd) = imm ∧ cFieldRs1' (encCbImm funct2 imm rd) = rd ∧
    (encCbImm funct2 imm rd).extractLsb' 0 2 = 0b01#2 := by
  simp (disch := decide) only [encCbImm, immCi, cFieldRs1', extractLsb'_append_eq_of_le, extractLsb'_append_eq_of_add_le,
    extractLsb'_append_extractLsb'_eq_extractLsb', extractLsb'_eq_self, Nat.reduceSub, and_self_iff]

@[simp] theorem fields_encCb (funct3 : BitVec 3) (off : BitVec 9) (rs1 : CReg) :
    (encCb funct3 off rs1).extractLsb' 13 3 = funct3 ∧ cFieldRs1' (encCb funct3 off rs1) = rs1 ∧
    (encCb funct3 off rs1).extractLsb' 0 2 = 0b01#2 := by
  simp (disch := decide) only [encCb, cFieldRs1', extractLsb'_append_eq_of_le, extractLsb'_append_eq_of_add_le,
    extractLsb'_eq_self, Nat.reduceSub, and_self_iff]

@[simp] theorem immCb_encCb (funct3 : BitVec 3) {off : BitVec 9} (h : WellFormed.even off = true) (rs1 : CReg) :
    immCb (encCb funct3 off rs1) = off := by
  have hlow : 0#1 = off.extractLsb' 0 1 := (beq_iff_eq.mp h).symm
  simp (disch := decide) only [encCb, immCb, hlow, extractLsb'_append_eq_of_le, extractLsb'_append_eq_of_add_le,
    extractLsb'_append_extractLsb'_eq_extractLsb', extractLsb'_eq_self, Nat.reduceSub]

@[simp] theorem fields_encCj (off : BitVec 12) :
    (encCj off).extractLsb' 13 3 = 0b101#3 ∧ (encCj off).extractLsb' 0 2 = 0b01#2 := by
  simp (disch := decide) only [encCj, extractLsb'_append_eq_of_le, extractLsb'_append_eq_of_add_le, extractLsb'_eq_self,
    Nat.reduceSub, and_self_iff]

@[simp] theorem immCj_encCj {off : BitVec 12} (h : WellFormed.even off = true) : immCj (encCj off) = off := by
  have hlow : 0#1 = off.extractLsb' 0 1 := (beq_iff_eq.mp h).symm
  simp (disch := decide) only [encCj, immCj, hlow, extractLsb'_append_eq_of_le, extractLsb'_append_eq_of_add_le,
    extractLsb'_append_extractLsb'_eq_extractLsb', extractLsb'_eq_self, Nat.reduceSub]

end Sys2Proof
end

section
/-! PROOFS. The encoded word is decoded to its instruction, opcode by opcode (spec/30_encoding.md rules R135 to R138). -/
namespace Sys2Proof

/-- The decoder of an opcode reads the word. -/
theorem decode32_of_opcode (w : BitVec 32) :
    (fieldOpcode w = 0b0000011#7 → decode32 w = decodeLoad w) ∧
    (fieldOpcode w = 0b0000111#7 → decode32 w = decodeLoadFp w) ∧
    (fieldOpcode w = 0b0001111#7 → decode32 w = decodeMiscMem w) ∧
    (fieldOpcode w = 0b0010011#7 → decode32 w = decodeOpImm w) ∧
    (fieldOpcode w = 0b0010111#7 → decode32 w = some (.auipc (fieldRd w) (immU w))) ∧
    (fieldOpcode w = 0b0011011#7 → decode32 w = decodeOpImm32 w) ∧
    (fieldOpcode w = 0b0100011#7 → decode32 w = decodeStore w) ∧
    (fieldOpcode w = 0b0100111#7 → decode32 w = decodeStoreFp w) ∧
    (fieldOpcode w = 0b0101111#7 → decode32 w = decodeAmo w) ∧
    (fieldOpcode w = 0b0110011#7 → decode32 w = decodeOp w) ∧
    (fieldOpcode w = 0b0110111#7 → decode32 w = some (.lui (fieldRd w) (immU w))) ∧
    (fieldOpcode w = 0b0111011#7 → decode32 w = decodeOp32 w) ∧
    (fieldOpcode w = 0b1000011#7 → decode32 w = decodeFused .fmaddS .fmaddD w) ∧
    (fieldOpcode w = 0b1000111#7 → decode32 w = decodeFused .fmsubS .fmsubD w) ∧
    (fieldOpcode w = 0b1001011#7 → decode32 w = decodeFused .fnmsubS .fnmsubD w) ∧
    (fieldOpcode w = 0b1001111#7 → decode32 w = decodeFused .fnmaddS .fnmaddD w) ∧
    (fieldOpcode w = 0b1010011#7 → decode32 w = decodeOpFp w) ∧
    (fieldOpcode w = 0b1100011#7 → decode32 w = decodeBranch w) ∧
    (fieldOpcode w = 0b1101111#7 → decode32 w = some (.jal (fieldRd w) (immJ w))) ∧
    (fieldOpcode w = 0b1110011#7 → decode32 w = decodeSystem w) := by
  unfold decode32
  refine ⟨?_, ?_, ?_, ?_, ?_, ?_, ?_, ?_, ?_, ?_, ?_, ?_, ?_, ?_, ?_, ?_, ?_, ?_, ?_, ?_⟩ <;> intro h <;> rw [h] <;> rfl

section
variable (rd rs1 rs2 rs3 : Reg) (imm csr : BitVec 12) (imm20 : BitVec 20) (rm : BitVec 3)

theorem decode32_encode_upper : ∀ i ∈ [Instr.lui rd imm20, .auipc rd imm20], decode32 (encode i) = some i := by
  simp only [List.forall_mem_cons, List.not_mem_nil, IsEmpty.forall_iff, implies_true, and_true]
  unfold encode
  simp only [decode32_of_opcode, fields_encU, and_self]

theorem decode32_encode_opImm :
    ∀ i ∈ [Instr.addi rd rs1 imm, .slti rd rs1 imm, .sltiu rd rs1 imm, .xori rd rs1 imm, .ori rd rs1 imm, .andi rd rs1 imm,
      .addiw rd rs1 imm], decode32 (encode i) = some i := by
  simp only [List.forall_mem_cons, List.not_mem_nil, IsEmpty.forall_iff, implies_true, and_true]
  unfold encode
  simp only [decode32_of_opcode, decodeOpImm, decodeOpImm32, fields_encI, and_self]

theorem decode32_encode_shift (shamt : BitVec 6) :
    ∀ i ∈ [Instr.slli rd rs1 shamt, .srli rd rs1 shamt, .srai rd rs1 shamt], decode32 (encode i) = some i := by
  simp only [List.forall_mem_cons, List.not_mem_nil, IsEmpty.forall_iff, implies_true, and_true]
  unfold encode
  simp only [decode32_of_opcode, decodeOpImm, fields_encShift6, and_self]

theorem decode32_encode_shiftWord (shamt : BitVec 5) :
    ∀ i ∈ [Instr.slliw rd rs1 shamt, .srliw rd rs1 shamt, .sraiw rd rs1 shamt], decode32 (encode i) = some i := by
  simp only [List.forall_mem_cons, List.not_mem_nil, IsEmpty.forall_iff, implies_true, and_true]
  unfold encode
  simp only [decode32_of_opcode, decodeOpImm32, fields_encR, and_self]

theorem decode32_encode_op :
    ∀ i ∈ [Instr.add rd rs1 rs2, .sub rd rs1 rs2, .sll rd rs1 rs2, .slt rd rs1 rs2, .sltu rd rs1 rs2, .xor rd rs1 rs2,
      .srl rd rs1 rs2, .sra rd rs1 rs2, .or rd rs1 rs2, .and rd rs1 rs2, .mul rd rs1 rs2, .mulh rd rs1 rs2,
      .mulhsu rd rs1 rs2, .mulhu rd rs1 rs2, .div rd rs1 rs2, .divu rd rs1 rs2, .rem rd rs1 rs2, .remu rd rs1 rs2],
      decode32 (encode i) = some i := by
  simp only [List.forall_mem_cons, List.not_mem_nil, IsEmpty.forall_iff, implies_true, and_true]
  unfold encode
  simp only [decode32_of_opcode, decodeOp, fields_encR, and_self]

theorem decode32_encode_op32 :
    ∀ i ∈ [Instr.addw rd rs1 rs2, .subw rd rs1 rs2, .sllw rd rs1 rs2, .srlw rd rs1 rs2, .sraw rd rs1 rs2, .mulw rd rs1 rs2,
      .divw rd rs1 rs2, .divuw rd rs1 rs2, .remw rd rs1 rs2, .remuw rd rs1 rs2], decode32 (encode i) = some i := by
  simp only [List.forall_mem_cons, List.not_mem_nil, IsEmpty.forall_iff, implies_true, and_true]
  unfold encode
  simp only [decode32_of_opcode, decodeOp32, fields_encR, and_self]

theorem decode32_encode_jalr : decode32 (encode (.jalr rd rs1 imm)) = some (.jalr rd rs1 imm) := by
  unfold encode
  simp only [decode32, fields_encI]

theorem decode32_encode_jal {offset : BitVec 21} (h : WellFormed.even offset = true) :
    decode32 (encode (.jal rd offset)) = some (.jal rd offset) := by
  unfold encode
  simp only [decode32_of_opcode, h, fields_encJ, immJ_encJ]

theorem decode32_encode_branch {offset : BitVec 13} (h : WellFormed.even offset = true) :
    ∀ i ∈ [Instr.beq rs1 rs2 offset, .bne rs1 rs2 offset, .blt rs1 rs2 offset, .bge rs1 rs2 offset, .bltu rs1 rs2 offset,
      .bgeu rs1 rs2 offset], decode32 (encode i) = some i := by
  simp only [List.forall_mem_cons, List.not_mem_nil, IsEmpty.forall_iff, implies_true, and_true]
  unfold encode
  simp only [decode32_of_opcode, decodeBranch, h, fields_encB, immB_encB, and_self]

theorem decode32_encode_load :
    ∀ i ∈ [Instr.lb rd rs1 imm, .lh rd rs1 imm, .lw rd rs1 imm, .ld rd rs1 imm, .lbu rd rs1 imm, .lhu rd rs1 imm,
      .lwu rd rs1 imm, .flw rd rs1 imm, .fld rd rs1 imm], decode32 (encode i) = some i := by
  simp only [List.forall_mem_cons, List.not_mem_nil, IsEmpty.forall_iff, implies_true, and_true]
  unfold encode
  simp only [decode32_of_opcode, decodeLoad, decodeLoadFp, fields_encI, and_self]

theorem decode32_encode_store :
    ∀ i ∈ [Instr.sb rs2 rs1 imm, .sh rs2 rs1 imm, .sw rs2 rs1 imm, .sd rs2 rs1 imm, .fsw rs2 rs1 imm, .fsd rs2 rs1 imm],
      decode32 (encode i) = some i := by
  simp only [List.forall_mem_cons, List.not_mem_nil, IsEmpty.forall_iff, implies_true, and_true]
  unfold encode
  simp only [decode32_of_opcode, decodeStore, decodeStoreFp, fields_encS, and_self]

theorem decode32_encode_fenceI : decode32 (encode (.fenceI imm rs1 rd)) = some (.fenceI imm rs1 rd) := by
  unfold encode
  simp only [decode32_of_opcode, decodeMiscMem, fields_encI]

theorem decode32_encode_csr (uimm : BitVec 5) :
    ∀ i ∈ [Instr.csrrw rd csr rs1, .csrrs rd csr rs1, .csrrc rd csr rs1, .csrrwi rd csr uimm, .csrrsi rd csr uimm,
      .csrrci rd csr uimm], decode32 (encode i) = some i := by
  simp only [List.forall_mem_cons, List.not_mem_nil, IsEmpty.forall_iff, implies_true, and_true]
  unfold encode
  simp only [decode32_of_opcode, decodeSystem, fields_encI, and_self]

section
variable (aq rl : BitVec 1)

theorem decode32_encode_lr : ∀ i ∈ [Instr.lrW rd rs1 aq rl, .lrD rd rs1 aq rl], decode32 (encode i) = some i := by
  simp only [List.forall_mem_cons, List.not_mem_nil, IsEmpty.forall_iff, implies_true, and_true]
  unfold encode
  simp only [decode32_of_opcode, decodeAmo, fields_encAmo, and_self]

theorem decode32_encode_amoWord :
    ∀ i ∈ [Instr.scW rd rs2 rs1 aq rl, .amoswapW rd rs2 rs1 aq rl, .amoaddW rd rs2 rs1 aq rl, .amoxorW rd rs2 rs1 aq rl,
      .amoandW rd rs2 rs1 aq rl, .amoorW rd rs2 rs1 aq rl, .amominW rd rs2 rs1 aq rl, .amomaxW rd rs2 rs1 aq rl,
      .amominuW rd rs2 rs1 aq rl, .amomaxuW rd rs2 rs1 aq rl], decode32 (encode i) = some i := by
  simp only [List.forall_mem_cons, List.not_mem_nil, IsEmpty.forall_iff, implies_true, and_true]
  unfold encode
  simp only [decode32_of_opcode, decodeAmo, fields_encAmo, and_self]

theorem decode32_encode_amoDouble :
    ∀ i ∈ [Instr.scD rd rs2 rs1 aq rl, .amoswapD rd rs2 rs1 aq rl, .amoaddD rd rs2 rs1 aq rl, .amoxorD rd rs2 rs1 aq rl,
      .amoandD rd rs2 rs1 aq rl, .amoorD rd rs2 rs1 aq rl, .amominD rd rs2 rs1 aq rl, .amomaxD rd rs2 rs1 aq rl,
      .amominuD rd rs2 rs1 aq rl, .amomaxuD rd rs2 rs1 aq rl], decode32 (encode i) = some i := by
  simp only [List.forall_mem_cons, List.not_mem_nil, IsEmpty.forall_iff, implies_true, and_true]
  unfold encode
  simp only [decode32_of_opcode, decodeAmo, fields_encAmo, and_self]

end

theorem decode32_encode_fused :
    ∀ i ∈ [Instr.fmaddS rd rs1 rs2 rs3 rm, .fmsubS rd rs1 rs2 rs3 rm, .fnmsubS rd rs1 rs2 rs3 rm,
      .fnmaddS rd rs1 rs2 rs3 rm, .fmaddD rd rs1 rs2 rs3 rm, .fmsubD rd rs1 rs2 rs3 rm, .fnmsubD rd rs1 rs2 rs3 rm,
      .fnmaddD rd rs1 rs2 rs3 rm], decode32 (encode i) = some i := by
  simp only [List.forall_mem_cons, List.not_mem_nil, IsEmpty.forall_iff, implies_true, and_true]
  unfold encode
  simp only [decode32_of_opcode, decodeFused, fields_encR4, and_self]

theorem decode32_encode_floatArithmetic :
    ∀ i ∈ [Instr.faddS rd rs1 rs2 rm, .fsubS rd rs1 rs2 rm, .fmulS rd rs1 rs2 rm, .fdivS rd rs1 rs2 rm,
      .faddD rd rs1 rs2 rm, .fsubD rd rs1 rs2 rm, .fmulD rd rs1 rs2 rm, .fdivD rd rs1 rs2 rm],
      decode32 (encode i) = some i := by
  simp only [List.forall_mem_cons, List.not_mem_nil, IsEmpty.forall_iff, implies_true, and_true]
  unfold encode
  simp only [decode32_of_opcode, decodeOpFp, fields_encR, and_self]

theorem decode32_encode_floatPair :
    ∀ i ∈ [Instr.fsgnjS rd rs1 rs2, .fsgnjnS rd rs1 rs2, .fsgnjxS rd rs1 rs2, .fminS rd rs1 rs2, .fmaxS rd rs1 rs2,
      .fleS rd rs1 rs2, .fltS rd rs1 rs2, .feqS rd rs1 rs2, .fsgnjD rd rs1 rs2, .fsgnjnD rd rs1 rs2,
      .fsgnjxD rd rs1 rs2, .fminD rd rs1 rs2, .fmaxD rd rs1 rs2, .fleD rd rs1 rs2, .fltD rd rs1 rs2, .feqD rd rs1 rs2],
      decode32 (encode i) = some i := by
  simp only [List.forall_mem_cons, List.not_mem_nil, IsEmpty.forall_iff, implies_true, and_true]
  unfold encode
  simp only [decode32_of_opcode, decodeOpFp, fields_encR, and_self]

theorem decode32_encode_convert :
    ∀ i ∈ [Instr.fsqrtS rd rs1 rm, .fcvtWS rd rs1 rm, .fcvtSW rd rs1 rm, .fcvtWuS rd rs1 rm, .fcvtSWu rd rs1 rm,
      .fcvtLS rd rs1 rm, .fcvtSL rd rs1 rm, .fcvtLuS rd rs1 rm, .fcvtSLu rd rs1 rm, .fsqrtD rd rs1 rm,
      .fcvtWD rd rs1 rm, .fcvtDW rd rs1 rm, .fcvtWuD rd rs1 rm, .fcvtDWu rd rs1 rm, .fcvtLD rd rs1 rm,
      .fcvtDL rd rs1 rm, .fcvtLuD rd rs1 rm, .fcvtDLu rd rs1 rm, .fcvtSD rd rs1 rm, .fcvtDS rd rs1 rm],
      decode32 (encode i) = some i := by
  simp only [List.forall_mem_cons, List.not_mem_nil, IsEmpty.forall_iff, implies_true, and_true]
  unfold encode
  simp only [decode32_of_opcode, decodeOpFp, fields_encR, and_self]

theorem decode32_encode_move :
    ∀ i ∈ [Instr.fmvXW rd rs1, .fclassS rd rs1, .fmvWX rd rs1, .fmvXD rd rs1, .fclassD rd rs1, .fmvDX rd rs1],
      decode32 (encode i) = some i := by
  simp only [List.forall_mem_cons, List.not_mem_nil, IsEmpty.forall_iff, implies_true, and_true]
  unfold encode
  simp only [decode32_of_opcode, decodeOpFp, fields_encR, and_self]

end

theorem decode32_encode_environment : ∀ i ∈ [Instr.ecall, .ebreak], decode32 (encode i) = some i := by decide

@[simp] theorem fences_encI (fm pred succ : BitVec 4) (rs1 rd : Reg) (funct3 : BitVec 3) (opcode : BitVec 7) :
    (encI (fm ++ pred ++ succ) rs1 funct3 rd opcode).extractLsb' 28 4 = fm ∧
    (encI (fm ++ pred ++ succ) rs1 funct3 rd opcode).extractLsb' 24 4 = pred ∧
    (encI (fm ++ pred ++ succ) rs1 funct3 rd opcode).extractLsb' 20 4 = succ := by
  simp (disch := decide) only [encI, BitVec.extractLsb'_append_eq_of_le, BitVec.extractLsb'_append_eq_of_add_le,
    BitVec.extractLsb'_eq_self, Nat.reduceSub, and_self]

theorem decode32_encode_fence (fm pred succ : BitVec 4) (rs1 rd : Reg) :
    decode32 (encode (.fence fm pred succ rs1 rd)) = some (.fence fm pred succ rs1 rd) := by
  unfold encode
  simp only [decode32_of_opcode, decodeMiscMem, fields_encI, fences_encI]

/-- The decoder of 32-bit words reads every well-formed instruction back. -/
theorem decode32_encode {i : Instr} (hlen : i.len = 4) (hwf : i.wf = true) : decode32 (encode i) = some i := by
  cases i
  case lui rd imm20 | auipc rd imm20 => exact decode32_encode_upper rd imm20 _ (by repeat constructor)
  case addi rd rs1 imm | slti rd rs1 imm | sltiu rd rs1 imm | xori rd rs1 imm | ori rd rs1 imm | andi rd rs1 imm
      | addiw rd rs1 imm =>
    exact decode32_encode_opImm rd rs1 imm _ (by repeat constructor)
  case slli rd rs1 shamt | srli rd rs1 shamt | srai rd rs1 shamt =>
      exact decode32_encode_shift rd rs1 shamt _ (by repeat constructor)
  case slliw rd rs1 shamt | srliw rd rs1 shamt | sraiw rd rs1 shamt =>
    exact decode32_encode_shiftWord rd rs1 shamt _ (by repeat constructor)
  case add rd rs1 rs2 | sub rd rs1 rs2 | sll rd rs1 rs2 | slt rd rs1 rs2 | sltu rd rs1 rs2 | xor rd rs1 rs2
      | srl rd rs1 rs2 | sra rd rs1 rs2 | or rd rs1 rs2 | and rd rs1 rs2 | mul rd rs1 rs2 | mulh rd rs1 rs2
      | mulhsu rd rs1 rs2 | mulhu rd rs1 rs2 | div rd rs1 rs2 | divu rd rs1 rs2 | rem rd rs1 rs2 | remu rd rs1 rs2 =>
    exact decode32_encode_op rd rs1 rs2 _ (by repeat constructor)
  case addw rd rs1 rs2 | subw rd rs1 rs2 | sllw rd rs1 rs2 | srlw rd rs1 rs2 | sraw rd rs1 rs2 | mulw rd rs1 rs2
      | divw rd rs1 rs2 | divuw rd rs1 rs2 | remw rd rs1 rs2 | remuw rd rs1 rs2 =>
    exact decode32_encode_op32 rd rs1 rs2 _ (by repeat constructor)
  case jalr rd rs1 imm => exact decode32_encode_jalr rd rs1 imm
  case jal rd offset => exact decode32_encode_jal rd hwf
  case beq rs1 rs2 offset | bne rs1 rs2 offset | blt rs1 rs2 offset | bge rs1 rs2 offset | bltu rs1 rs2 offset
      | bgeu rs1 rs2 offset =>
    exact decode32_encode_branch rs1 rs2 hwf _ (by repeat constructor)
  case lb rd rs1 imm | lh rd rs1 imm | lw rd rs1 imm | ld rd rs1 imm | lbu rd rs1 imm | lhu rd rs1 imm | lwu rd rs1 imm
      | flw rd rs1 imm | fld rd rs1 imm =>
    exact decode32_encode_load rd rs1 imm _ (by repeat constructor)
  case sb rs2 rs1 imm | sh rs2 rs1 imm | sw rs2 rs1 imm | sd rs2 rs1 imm | fsw rs2 rs1 imm | fsd rs2 rs1 imm =>
    exact decode32_encode_store rs1 rs2 imm _ (by repeat constructor)
  case fence fm pred succ rs1 rd => exact decode32_encode_fence fm pred succ rs1 rd
  case fenceI imm rs1 rd => exact decode32_encode_fenceI rd rs1 imm
  case ecall | ebreak => exact decode32_encode_environment _ (by repeat constructor)
  case csrrw rd csr rs1 | csrrs rd csr rs1 | csrrc rd csr rs1 | csrrwi rd csr rs1 | csrrsi rd csr rs1 | csrrci rd csr rs1 =>
    exact decode32_encode_csr rd rs1 csr rs1 _ (by repeat constructor)
  case lrW rd rs1 aq rl | lrD rd rs1 aq rl => exact decode32_encode_lr rd rs1 aq rl _ (by repeat constructor)
  case scW rd rs2 rs1 aq rl | amoswapW rd rs2 rs1 aq rl | amoaddW rd rs2 rs1 aq rl | amoxorW rd rs2 rs1 aq rl
      | amoandW rd rs2 rs1 aq rl | amoorW rd rs2 rs1 aq rl | amominW rd rs2 rs1 aq rl | amomaxW rd rs2 rs1 aq rl
      | amominuW rd rs2 rs1 aq rl | amomaxuW rd rs2 rs1 aq rl =>
    exact decode32_encode_amoWord rd rs1 rs2 aq rl _ (by repeat constructor)
  case scD rd rs2 rs1 aq rl | amoswapD rd rs2 rs1 aq rl | amoaddD rd rs2 rs1 aq rl | amoxorD rd rs2 rs1 aq rl
      | amoandD rd rs2 rs1 aq rl | amoorD rd rs2 rs1 aq rl | amominD rd rs2 rs1 aq rl | amomaxD rd rs2 rs1 aq rl
      | amominuD rd rs2 rs1 aq rl | amomaxuD rd rs2 rs1 aq rl =>
    exact decode32_encode_amoDouble rd rs1 rs2 aq rl _ (by repeat constructor)
  case fmaddS rd rs1 rs2 rs3 rm | fmsubS rd rs1 rs2 rs3 rm | fnmsubS rd rs1 rs2 rs3 rm | fnmaddS rd rs1 rs2 rs3 rm
      | fmaddD rd rs1 rs2 rs3 rm | fmsubD rd rs1 rs2 rs3 rm | fnmsubD rd rs1 rs2 rs3 rm | fnmaddD rd rs1 rs2 rs3 rm =>
    exact decode32_encode_fused rd rs1 rs2 rs3 rm _ (by repeat constructor)
  case faddS rd rs1 rs2 rm | fsubS rd rs1 rs2 rm | fmulS rd rs1 rs2 rm | fdivS rd rs1 rs2 rm | faddD rd rs1 rs2 rm
      | fsubD rd rs1 rs2 rm | fmulD rd rs1 rs2 rm | fdivD rd rs1 rs2 rm =>
    exact decode32_encode_floatArithmetic rd rs1 rs2 rm _ (by repeat constructor)
  case fsgnjS rd rs1 rs2 | fsgnjnS rd rs1 rs2 | fsgnjxS rd rs1 rs2 | fminS rd rs1 rs2 | fmaxS rd rs1 rs2
      | fleS rd rs1 rs2 | fltS rd rs1 rs2 | feqS rd rs1 rs2 | fsgnjD rd rs1 rs2 | fsgnjnD rd rs1 rs2 | fsgnjxD rd rs1 rs2
      | fminD rd rs1 rs2 | fmaxD rd rs1 rs2 | fleD rd rs1 rs2 | fltD rd rs1 rs2 | feqD rd rs1 rs2 =>
    exact decode32_encode_floatPair rd rs1 rs2 _ (by repeat constructor)
  case fsqrtS rd rs1 rm | fcvtWS rd rs1 rm | fcvtSW rd rs1 rm | fcvtWuS rd rs1 rm | fcvtSWu rd rs1 rm | fcvtLS rd rs1 rm
      | fcvtSL rd rs1 rm | fcvtLuS rd rs1 rm | fcvtSLu rd rs1 rm | fsqrtD rd rs1 rm | fcvtWD rd rs1 rm
      | fcvtDW rd rs1 rm | fcvtWuD rd rs1 rm | fcvtDWu rd rs1 rm | fcvtLD rd rs1 rm | fcvtDL rd rs1 rm
      | fcvtLuD rd rs1 rm | fcvtDLu rd rs1 rm | fcvtSD rd rs1 rm | fcvtDS rd rs1 rm =>
    exact decode32_encode_convert rd rs1 rm _ (by repeat constructor)
  case fmvXW rd rs1 | fclassS rd rs1 | fmvWX rd rs1 | fmvXD rd rs1 | fclassD rd rs1 | fmvDX rd rs1 =>
    exact decode32_encode_move rd rs1 _ (by repeat constructor)
  all_goals cases hlen

end Sys2Proof
end

section
/-! PROOFS. The encoded parcel of a compressed instruction is decoded to it, quadrant by quadrant (spec/30_encoding.md rules
R144 to R146); and the decoder on bytes. -/
namespace Sys2Proof

open WellFormed

@[simp] theorem extractLsb'_setWidth_parcel (h : BitVec 16) : (h.setWidth 32).extractLsb' 0 16 = h := by
  refine BitVec.eq_of_getLsbD_eq fun i hi => ?_
  simp [hi, hi.trans (by decide : 16 < 32)]

theorem nonzero_iff {n : Nat} (v : BitVec n) : nonzero v = true ↔ v ≠ 0#n := bne_iff_ne

/-- The decoder of a quadrant reads the parcel. -/
theorem decode16_of_quadrant (h : BitVec 16) :
    (h.extractLsb' 0 2 = 0b00#2 → decode16 h = decodeQ0 h) ∧ (h.extractLsb' 0 2 = 0b01#2 → decode16 h = decodeQ1 h) ∧
    (h.extractLsb' 0 2 = 0b10#2 → decode16 h = decodeQ2 h) := by
  unfold decode16
  refine ⟨?_, ?_, ?_⟩ <;> intro hq <;> rw [hq] <;> rfl

/-- The parcel of an encoded instruction. -/
def parcelOf (i : Instr) : BitVec 16 := (encode i).extractLsb' 0 16

theorem decode16_encode_loadStoreWord (r rs1 : CReg) {uimm : BitVec 7} (h : low2 uimm = true) :
    ∀ i ∈ [Instr.cLw r rs1 uimm, .cSw r rs1 uimm], decode16 (parcelOf i) = some i := by
  simp only [List.forall_mem_cons, List.not_mem_nil, IsEmpty.forall_iff, implies_true, and_true]
  unfold parcelOf encode
  simp [decode16_of_quadrant, decodeQ0, h]

theorem decode16_encode_loadStoreDouble (r rs1 : CReg) {uimm : BitVec 8} (h : low3 uimm = true) :
    ∀ i ∈ [Instr.cFld r rs1 uimm, .cLd r rs1 uimm, .cFsd r rs1 uimm, .cSd r rs1 uimm], decode16 (parcelOf i) = some i := by
  simp only [List.forall_mem_cons, List.not_mem_nil, IsEmpty.forall_iff, implies_true, and_true]
  unfold parcelOf encode
  simp [decode16_of_quadrant, decodeQ0, h]

theorem decode16_encode_addi4spn (rd : CReg) {nzuimm : BitVec 10} (h : low2 nzuimm = true) (hnz : nonzero nzuimm = true) :
    decode16 (parcelOf (.cAddi4spn rd nzuimm)) = some (.cAddi4spn rd nzuimm) := by
  unfold parcelOf encode
  simp [decode16_of_quadrant, decodeQ0, h, (nonzero_iff _).mp hnz]

theorem decode16_encode_immediate {rd : Reg} (imm : BitVec 6) (hrd : nonzero rd = true) :
    ∀ i ∈ [Instr.cAddi rd imm, .cAddiw rd imm], decode16 (parcelOf i) = some i := by
  simp only [List.forall_mem_cons, List.not_mem_nil, IsEmpty.forall_iff, implies_true, and_true]
  unfold parcelOf encode
  simp [decode16_of_quadrant, decodeQ1, (nonzero_iff _).mp hrd]

theorem decode16_encode_anyRegister (rd : Reg) (imm : BitVec 6) :
    ∀ i ∈ [Instr.cNop imm, .cLi rd imm, .cSlli rd imm], decode16 (parcelOf i) = some i := by
  simp only [List.forall_mem_cons, List.not_mem_nil, IsEmpty.forall_iff, implies_true, and_true]
  unfold parcelOf encode
  simp [decode16_of_quadrant, decodeQ1, decodeQ2]

theorem decode16_encode_addi16sp {nzimm : BitVec 10} (h : low4 nzimm = true) (hnz : nonzero nzimm = true) :
    decode16 (parcelOf (.cAddi16sp nzimm)) = some (.cAddi16sp nzimm) := by
  have himm : immCi (encCi16sp nzimm) ≠ 0#6 := by
    rw [ne_eq, ← immAddi16sp_eq_zero_iff, immAddi16sp_encCi16sp h]
    exact (nonzero_iff _).mp hnz
  unfold parcelOf encode
  simp [decode16_of_quadrant, decodeQ1, h, himm]

theorem decode16_encode_lui {rd : Reg} {nzimm : BitVec 6} (hsp : notSp rd = true) (hnz : nonzero nzimm = true) :
    decode16 (parcelOf (.cLui rd nzimm)) = some (.cLui rd nzimm) := by
  have hrd : rd ≠ 2#5 := bne_iff_ne.mp hsp
  unfold parcelOf encode
  simp [decode16_of_quadrant, decodeQ1, hrd, (nonzero_iff _).mp hnz]

theorem decode16_encode_alu (rd rs2 : CReg) (imm : BitVec 6) :
    ∀ i ∈ [Instr.cSrli rd imm, .cSrai rd imm, .cAndi rd imm, .cSub rd rs2, .cXor rd rs2, .cOr rd rs2, .cAnd rd rs2,
      .cSubw rd rs2, .cAddw rd rs2], decode16 (parcelOf i) = some i := by
  simp only [List.forall_mem_cons, List.not_mem_nil, IsEmpty.forall_iff, implies_true, and_true]
  unfold parcelOf encode
  simp [decode16_of_quadrant, decodeQ1, decodeQ1Alu]

theorem decode16_encode_jump {offset : BitVec 12} (h : even offset = true) :
    decode16 (parcelOf (.cJ offset)) = some (.cJ offset) := by
  unfold parcelOf encode
  simp [decode16_of_quadrant, decodeQ1, h]

theorem decode16_encode_branch (rs1 : CReg) {offset : BitVec 9} (h : even offset = true) :
    ∀ i ∈ [Instr.cBeqz rs1 offset, .cBnez rs1 offset], decode16 (parcelOf i) = some i := by
  simp only [List.forall_mem_cons, List.not_mem_nil, IsEmpty.forall_iff, implies_true, and_true]
  unfold parcelOf encode
  simp [decode16_of_quadrant, decodeQ1, h]

theorem decode16_encode_spWord (r : Reg) {uimm : BitVec 8} (h : low2 uimm = true) :
    decode16 (parcelOf (.cSwsp r uimm)) = some (.cSwsp r uimm) ∧
      (nonzero r = true → decode16 (parcelOf (.cLwsp r uimm)) = some (.cLwsp r uimm)) := by
  rw [nonzero_iff]
  unfold parcelOf encode
  simp +contextual [decode16_of_quadrant, decodeQ2, h]

theorem decode16_encode_spDouble (r : Reg) {uimm : BitVec 9} (h : low3 uimm = true) :
    (∀ i ∈ [Instr.cFldsp r uimm, .cSdsp r uimm, .cFsdsp r uimm], decode16 (parcelOf i) = some i) ∧
      (nonzero r = true → decode16 (parcelOf (.cLdsp r uimm)) = some (.cLdsp r uimm)) := by
  rw [nonzero_iff]
  simp only [List.forall_mem_cons, List.not_mem_nil, IsEmpty.forall_iff, implies_true, and_true]
  unfold parcelOf encode
  simp +contextual [decode16_of_quadrant, decodeQ2, h]

theorem decode16_encode_jumpRegister {rs1 : Reg} (h : nonzero rs1 = true) :
    ∀ i ∈ [Instr.cJr rs1, .cJalr rs1], decode16 (parcelOf i) = some i := by
  simp only [List.forall_mem_cons, List.not_mem_nil, IsEmpty.forall_iff, implies_true, and_true]
  unfold parcelOf encode
  simp [decode16_of_quadrant, decodeQ2, decodeQ2Cr, (nonzero_iff _).mp h]

theorem decode16_encode_register (rd : Reg) {rs2 : Reg} (h : nonzero rs2 = true) :
    ∀ i ∈ [Instr.cMv rd rs2, .cAdd rd rs2], decode16 (parcelOf i) = some i := by
  simp only [List.forall_mem_cons, List.not_mem_nil, IsEmpty.forall_iff, implies_true, and_true]
  unfold parcelOf encode
  simp [decode16_of_quadrant, decodeQ2, decodeQ2Cr, (nonzero_iff _).mp h]

theorem decode16_encode_ebreak : decode16 (parcelOf .cEbreak) = some .cEbreak := by decide

/-- The decoder of parcels reads every well-formed compressed instruction back. -/
theorem decode16_encode {i : Instr} (hlen : i.len = 2) (hwf : i.wf = true) : decode16 (parcelOf i) = some i := by
  cases i
  case cLw r rs1 uimm | cSw r rs1 uimm => exact decode16_encode_loadStoreWord r rs1 hwf _ (by repeat constructor)
  case cFld r rs1 uimm | cLd r rs1 uimm | cFsd r rs1 uimm | cSd r rs1 uimm =>
    exact decode16_encode_loadStoreDouble r rs1 hwf _ (by repeat constructor)
  case cAddi4spn rd nzuimm =>
    obtain ⟨hlow, hnz⟩ := Bool.and_eq_true_iff.mp hwf
    exact decode16_encode_addi4spn rd hlow hnz
  case cAddi rd imm | cAddiw rd imm => exact decode16_encode_immediate imm hwf _ (by repeat constructor)
  case cNop imm => exact decode16_encode_anyRegister 0 imm _ (by repeat constructor)
  case cLi rd imm | cSlli rd imm => exact decode16_encode_anyRegister rd imm _ (by repeat constructor)
  case cAddi16sp nzimm =>
    obtain ⟨hlow, hnz⟩ := Bool.and_eq_true_iff.mp hwf
    exact decode16_encode_addi16sp hlow hnz
  case cLui rd nzimm =>
    obtain ⟨hsp, hnz⟩ := Bool.and_eq_true_iff.mp hwf
    exact decode16_encode_lui hsp hnz
  case cSrli rd imm | cSrai rd imm | cAndi rd imm => exact decode16_encode_alu rd rd imm _ (by repeat constructor)
  case cSub rd rs2 | cXor rd rs2 | cOr rd rs2 | cAnd rd rs2 | cSubw rd rs2 | cAddw rd rs2 =>
    exact decode16_encode_alu rd rs2 0 _ (by repeat constructor)
  case cJ offset => exact decode16_encode_jump hwf
  case cBeqz rs1 offset | cBnez rs1 offset => exact decode16_encode_branch rs1 hwf _ (by repeat constructor)
  case cSwsp rs2 uimm => exact (decode16_encode_spWord rs2 hwf).1
  case cLwsp rd uimm =>
    obtain ⟨hlow, hrd⟩ := Bool.and_eq_true_iff.mp hwf
    exact (decode16_encode_spWord rd hlow).2 hrd
  case cFldsp r uimm | cSdsp r uimm | cFsdsp r uimm => exact (decode16_encode_spDouble r hwf).1 _ (by repeat constructor)
  case cLdsp rd uimm =>
    obtain ⟨hlow, hrd⟩ := Bool.and_eq_true_iff.mp hwf
    exact (decode16_encode_spDouble rd hlow).2 hrd
  case cJr rs1 | cJalr rs1 => exact decode16_encode_jumpRegister hwf _ (by repeat constructor)
  case cMv rd rs2 | cAdd rd rs2 => exact decode16_encode_register rd hwf _ (by repeat constructor)
  case cEbreak => exact decode16_encode_ebreak
  all_goals cases hlen

end Sys2Proof
end

section
/-! PROOFS. A word or parcel that decodes is the encoding of a well-formed instruction: it is made of the fields the decoder
read (spec/30_encoding.md rules R120, R148). -/
namespace Sys2Proof

open WellFormed Machine

/-- `i` is well formed, `len` bytes long, and its encoding is `w`. -/
structure Encodes (i : Instr) (w : BitVec 32) (len : Nat) : Prop where
  wf : i.wf = true
  encoding : encode i = w
  length : i.len = len

/-! ### The 32-bit words, by opcode -/

section
variable {w : BitVec 32} {i : Instr} {f3 : BitVec 3} {op : BitVec 7} (hop : fieldOpcode w = op)
include hop

theorem encI_eq (h3 : fieldFunct3 w = f3) : encI (immI w) (fieldRs1 w) f3 (fieldRd w) op = w := by
  rw [← h3, ← hop, encI_fields]

theorem encS_eq (h3 : fieldFunct3 w = f3) : encS (immS w) (fieldRs2 w) (fieldRs1 w) f3 op = w := by
  rw [← h3, ← hop, encS_fields]

theorem encB_eq (h3 : fieldFunct3 w = f3) : encB (immB w) (fieldRs2 w) (fieldRs1 w) f3 op = w := by
  rw [← h3, ← hop, encB_fields]

theorem encShift6_eq {f6 : BitVec 6} (h6 : fieldFunct6 w = f6) (h3 : fieldFunct3 w = f3) :
    encShift6 f6 (fieldShamt6 w) (fieldRs1 w) f3 (fieldRd w) op = w := by
  rw [← h6, ← h3, ← hop, encShift6_fields]

theorem encR_eq {f7 : BitVec 7} {rs2 : Reg} (h7 : fieldFunct7 w = f7) (h2 : fieldRs2 w = rs2) (h3 : fieldFunct3 w = f3) :
    encR f7 rs2 (fieldRs1 w) f3 (fieldRd w) op = w := by
  rw [← h7, ← h2, ← h3, ← hop, encR_fields]

theorem encR4_eq {fmt : BitVec 2} (hfmt : fieldFmt w = fmt) :
    encR4 (fieldRs3 w) fmt (fieldRs2 w) (fieldRs1 w) (fieldFunct3 w) (fieldRd w) op = w := by
  rw [← hfmt, ← hop, encR4_fields]

end

theorem encU_eq {w : BitVec 32} {op : BitVec 7} (hop : fieldOpcode w = op) : encU (immU w) (fieldRd w) op = w := by
  rw [← hop, encU_fields]

theorem encJ_eq {w : BitVec 32} {op : BitVec 7} (hop : fieldOpcode w = op) : encJ (immJ w) (fieldRd w) op = w := by
  rw [← hop, encJ_fields]

theorem encAmo_eq {w : BitVec 32} {f5 : BitVec 5} {rs2 : Reg} {f3 : BitVec 3} (hop : fieldOpcode w = 0b0101111#7)
    (h5 : fieldFunct5 w = f5) (h2 : fieldRs2 w = rs2) (h3 : fieldFunct3 w = f3) :
    encAmo f5 (fieldAq w) (fieldRl w) rs2 (fieldRs1 w) f3 (fieldRd w) = w := by
  rw [← h5, ← h2, ← h3, encAmo_fields w hop]

section
variable {w : BitVec 32} {i : Instr}

theorem encodes_of_decodeLoad (hop : fieldOpcode w = 0b0000011#7) (h : decodeLoad w = some i) : Encodes i w 4 := by
  unfold decodeLoad at h
  split at h <;> cases h
  all_goals exact ⟨rfl, encI_eq hop ‹_›, rfl⟩

theorem encodes_of_decodeLoadFp (hop : fieldOpcode w = 0b0000111#7) (h : decodeLoadFp w = some i) : Encodes i w 4 := by
  unfold decodeLoadFp at h
  split at h <;> cases h
  all_goals exact ⟨rfl, encI_eq hop ‹_›, rfl⟩

theorem encodes_of_decodeStore (hop : fieldOpcode w = 0b0100011#7) (h : decodeStore w = some i) : Encodes i w 4 := by
  unfold decodeStore at h
  split at h <;> cases h
  all_goals exact ⟨rfl, encS_eq hop ‹_›, rfl⟩

theorem encodes_of_decodeStoreFp (hop : fieldOpcode w = 0b0100111#7) (h : decodeStoreFp w = some i) : Encodes i w 4 := by
  unfold decodeStoreFp at h
  split at h <;> cases h
  all_goals exact ⟨rfl, encS_eq hop ‹_›, rfl⟩

theorem immI_eq_fence (w : BitVec 32) : immI w = w.extractLsb' 28 4 ++ w.extractLsb' 24 4 ++ w.extractLsb' 20 4 := by
  simp (disch := decide) only [immI, BitVec.extractLsb'_append_extractLsb'_eq_extractLsb']

theorem encodes_of_decodeMiscMem (hop : fieldOpcode w = 0b0001111#7) (h : decodeMiscMem w = some i) : Encodes i w 4 := by
  unfold decodeMiscMem at h
  split at h <;> cases h
  · refine ⟨rfl, ?_, rfl⟩
    have := encI_eq hop ‹_›
    rwa [immI_eq_fence] at this
  · exact ⟨rfl, encI_eq hop ‹_›, rfl⟩

theorem encodes_of_decodeOpImm (hop : fieldOpcode w = 0b0010011#7) (h : decodeOpImm w = some i) : Encodes i w 4 := by
  unfold decodeOpImm at h
  split at h
  case h_7 | h_8 =>
    split at h <;> cases h
    all_goals exact ⟨rfl, encShift6_eq hop ‹_› ‹_›, rfl⟩
  all_goals
    cases h
    exact ⟨rfl, encI_eq hop ‹_›, rfl⟩

theorem encodes_of_decodeOpImm32 (hop : fieldOpcode w = 0b0011011#7) (h : decodeOpImm32 w = some i) : Encodes i w 4 := by
  unfold decodeOpImm32 at h
  split at h
  case h_1 =>
    cases h
    exact ⟨rfl, encI_eq hop ‹_›, rfl⟩
  case h_2 | h_3 =>
    split at h <;> cases h
    all_goals exact ⟨rfl, encR_eq hop ‹_› rfl ‹_›, rfl⟩
  case h_4 => cases h

theorem encodes_of_decodeOp (hop : fieldOpcode w = 0b0110011#7) (h : decodeOp w = some i) : Encodes i w 4 := by
  unfold decodeOp at h
  repeat' split at h
  all_goals cases h
  all_goals exact ⟨rfl, encR_eq hop ‹_› rfl ‹_›, rfl⟩

theorem encodes_of_decodeOp32 (hop : fieldOpcode w = 0b0111011#7) (h : decodeOp32 w = some i) : Encodes i w 4 := by
  unfold decodeOp32 at h
  repeat' split at h
  all_goals cases h
  all_goals exact ⟨rfl, encR_eq hop ‹_› rfl ‹_›, rfl⟩

theorem encodes_of_decodeBranch (hop : fieldOpcode w = 0b1100011#7) (h : decodeBranch w = some i) : Encodes i w 4 := by
  unfold decodeBranch at h
  split at h <;> cases h
  all_goals exact ⟨append_zero_low _ 1, encB_eq hop ‹_›, rfl⟩

theorem high25_append_opcode (w : BitVec 32) : w.extractLsb' 7 25 ++ fieldOpcode w = w := by
  simp (disch := decide) only [fieldOpcode, BitVec.extractLsb'_append_extractLsb'_eq_extractLsb', BitVec.extractLsb'_eq_self]

theorem encodes_of_decodeSystem (hop : fieldOpcode w = 0b1110011#7) (h : decodeSystem w = some i) : Encodes i w 4 := by
  unfold decodeSystem at h
  split at h
  case h_1 =>
    split at h <;> cases h
    all_goals
      refine ⟨rfl, ?_, rfl⟩
      rw [← high25_append_opcode w, hop, ‹w.extractLsb' 7 25 = _›]
      rfl
  all_goals cases h
  all_goals exact ⟨rfl, encI_eq hop ‹_›, rfl⟩

theorem encodes_of_decodeAmo (hop : fieldOpcode w = 0b0101111#7) (h : decodeAmo w = some i) : Encodes i w 4 := by
  unfold decodeAmo at h
  repeat' split at h
  all_goals cases h
  all_goals exact ⟨rfl, encAmo_eq hop ‹_› (by simp only [*]) ‹_›, rfl⟩

/-- The fused opcodes, whose two instructions are `R4` words of the opcode. -/
theorem encodes_of_decodeFused {single double : Reg → Reg → Reg → Reg → BitVec 3 → Instr} {op : BitVec 7}
    (hop : fieldOpcode w = op)
    (hs : ∀ rd rs1 rs2 rs3 rm, Encodes (single rd rs1 rs2 rs3 rm) (encR4 rs3 0b00#2 rs2 rs1 rm rd op) 4)
    (hd : ∀ rd rs1 rs2 rs3 rm, Encodes (double rd rs1 rs2 rs3 rm) (encR4 rs3 0b01#2 rs2 rs1 rm rd op) 4)
    (h : decodeFused single double w = some i) : Encodes i w 4 := by
  unfold decodeFused at h
  split at h <;> cases h
  · have := hs (fieldRd w) (fieldRs1 w) (fieldRs2 w) (fieldRs3 w) (fieldFunct3 w)
    rwa [encR4_eq hop ‹_›] at this
  · have := hd (fieldRd w) (fieldRs1 w) (fieldRs2 w) (fieldRs3 w) (fieldFunct3 w)
    rwa [encR4_eq hop ‹_›] at this

theorem encodes_of_decodeOpFp (hop : fieldOpcode w = 0b1010011#7) (h : decodeOpFp w = some i) : Encodes i w 4 := by
  unfold decodeOpFp at h
  repeat' split at h
  all_goals cases h
  all_goals exact ⟨rfl, encR_eq hop ‹_› (by simp only [*]) (by simp only [*]), rfl⟩

theorem encodes_of_decode32 (h : decode32 w = some i) : Encodes i w 4 := by
  unfold decode32 at h
  split at h
  case h_1 hop => exact encodes_of_decodeLoad hop h
  case h_2 hop => exact encodes_of_decodeLoadFp hop h
  case h_3 hop => exact encodes_of_decodeMiscMem hop h
  case h_4 hop => exact encodes_of_decodeOpImm hop h
  case h_6 hop => exact encodes_of_decodeOpImm32 hop h
  case h_7 hop => exact encodes_of_decodeStore hop h
  case h_8 hop => exact encodes_of_decodeStoreFp hop h
  case h_9 hop => exact encodes_of_decodeAmo hop h
  case h_10 hop => exact encodes_of_decodeOp hop h
  case h_12 hop => exact encodes_of_decodeOp32 hop h
  case h_13 hop | h_14 hop | h_15 hop | h_16 hop =>
    exact encodes_of_decodeFused hop (fun _ _ _ _ _ => ⟨rfl, rfl, rfl⟩) (fun _ _ _ _ _ => ⟨rfl, rfl, rfl⟩) h
  case h_17 hop => exact encodes_of_decodeOpFp hop h
  case h_18 hop => exact encodes_of_decodeBranch hop h
  case h_19 hop =>
    split at h <;> cases h
    exact ⟨rfl, encI_eq hop ‹_›, rfl⟩
  case h_20 hop =>
    cases h
    exact ⟨append_zero_low _ 1, encJ_eq hop, rfl⟩
  case h_21 hop => exact encodes_of_decodeSystem hop h
  case h_22 => cases h
  all_goals
    rename_i hop
    cases h
    exact ⟨rfl, encU_eq hop, rfl⟩

/-- Every opcode of the 32-bit decoder ends in 11 (spec/30_encoding.md rule R120). -/
theorem low2_of_decode32 (h : decode32 w = some i) : w.extractLsb' 0 2 = 0b11#2 := by
  have hlow : w.extractLsb' 0 2 = (fieldOpcode w).extractLsb' 0 2 := by simp [fieldOpcode]
  rw [hlow]
  unfold decode32 at h
  split at h
  case h_22 => cases h
  all_goals
    rename_i hop
    rw [hop]
    rfl

end

/-! ### The parcels, by quadrant -/

section
variable {h : BitVec 16} {i : Instr}

/-- A compressed instruction whose parcel is `h`. -/
theorem Encodes.of_parcel {e : BitVec 16} (hwf : i.wf = true) (hlen : i.len = 2) (hi : encode i = e.setWidth 32) (he : e = h) :
    Encodes i (h.setWidth 32) 2 :=
  ⟨hwf, he ▸ hi, hlen⟩

section
variable {f3 : BitVec 3} (hf : h.extractLsb' 13 3 = f3)
include hf

theorem encCi_eq {rd : Reg} {op : BitVec 2} (hrd : cFieldRd h = rd) (hop : h.extractLsb' 0 2 = op) :
    encCi f3 (immCi h) rd op = h := by
  rw [← hf, ← hrd, ← hop, encCi_fields]

theorem encClW_eq (hop : h.extractLsb' 0 2 = 0b00#2) : encClW f3 (immClW h) (cFieldRs1' h) (cFieldRd' h) = h := by
  rw [← hf, encClW_fields h hop]

theorem encClD_eq (hop : h.extractLsb' 0 2 = 0b00#2) : encClD f3 (immClD h) (cFieldRs1' h) (cFieldRd' h) = h := by
  rw [← hf, encClD_fields h hop]

theorem encCb_eq (hop : h.extractLsb' 0 2 = 0b01#2) : encCb f3 (immCb h) (cFieldRs1' h) = h := by
  rw [← hf, encCb_fields h hop]

theorem encCiWsp_eq (hop : h.extractLsb' 0 2 = 0b10#2) : encCiWsp f3 (immLwsp h) (cFieldRd h) = h := by
  rw [← hf, encCiWsp_fields h hop]

theorem encCiDsp_eq (hop : h.extractLsb' 0 2 = 0b10#2) : encCiDsp f3 (immLdsp h) (cFieldRd h) = h := by
  rw [← hf, encCiDsp_fields h hop]

theorem encCssW_eq (hop : h.extractLsb' 0 2 = 0b10#2) : encCssW f3 (immSwsp h) (cFieldRs2 h) = h := by
  rw [← hf, encCssW_fields h hop]

theorem encCssD_eq (hop : h.extractLsb' 0 2 = 0b10#2) : encCssD f3 (immSdsp h) (cFieldRs2 h) = h := by
  rw [← hf, encCssD_fields h hop]

end

theorem encodes_of_decodeQ0 (hop : h.extractLsb' 0 2 = 0b00#2) (hi : decodeQ0 h = some i) : Encodes i (h.setWidth 32) 2 := by
  unfold decodeQ0 at hi
  split at hi
  case h_1 hf =>
    split at hi <;> cases hi
    exact .of_parcel (Bool.and_eq_true_iff.mpr ⟨append_zero_low _ 2, (nonzero_iff _).mpr ‹_›⟩) rfl rfl (encCiw_fields h hop hf)
  case h_3 hf | h_7 hf =>
    cases hi
    exact .of_parcel (append_zero_low _ 2) rfl rfl (encClW_eq hf hop)
  case h_5 => cases hi
  all_goals
    rename_i hf
    cases hi
    exact .of_parcel (append_zero_low _ 3) rfl rfl (encClD_eq hf hop)

theorem encodes_of_decodeQ1Alu (hop : h.extractLsb' 0 2 = 0b01#2) (hf : h.extractLsb' 13 3 = 0b100#3)
    (hi : decodeQ1Alu h = some i) : Encodes i (h.setWidth 32) 2 := by
  have himm := encCbImm_fields h hop hf
  have hreg := encCa_fields h hop
  unfold decodeQ1Alu at hi
  split at hi
  case h_4 h10 =>
    repeat' split at hi
    all_goals cases hi
    all_goals
      rw [hf, h10, ‹h.extractLsb' 12 1 = _›, ‹h.extractLsb' 5 2 = _›] at hreg
      exact .of_parcel rfl rfl rfl hreg
  all_goals
    cases hi
    rw [‹h.extractLsb' 10 2 = _›] at himm
    exact .of_parcel rfl rfl rfl himm

theorem encodes_of_decodeQ1 (hop : h.extractLsb' 0 2 = 0b01#2) (hi : decodeQ1 h = some i) : Encodes i (h.setWidth 32) 2 := by
  unfold decodeQ1 at hi
  split at hi
  case h_1 hf =>
    split at hi <;> cases hi
    case isTrue hrd => exact .of_parcel rfl rfl rfl (encCi_eq hf hrd hop)
    case isFalse hrd => exact .of_parcel ((nonzero_iff _).mpr hrd) rfl rfl (encCi_eq hf rfl hop)
  case h_2 hf =>
    split at hi <;> cases hi
    exact .of_parcel ((nonzero_iff _).mpr ‹_›) rfl rfl (encCi_eq hf rfl hop)
  case h_3 hf =>
    cases hi
    exact .of_parcel rfl rfl rfl (encCi_eq hf rfl hop)
  case h_4 hf =>
    split at hi
    case isTrue => cases hi
    case isFalse himm =>
      split at hi <;> cases hi
      case isTrue hrd =>
        have hnz := (immAddi16sp_eq_zero_iff h).not.mpr himm
        exact .of_parcel (Bool.and_eq_true_iff.mpr ⟨append_zero_low _ 4, (nonzero_iff _).mpr hnz⟩)
            rfl rfl (encCi16sp_fields h hop hf hrd)
      case isFalse hrd =>
        exact .of_parcel (Bool.and_eq_true_iff.mpr ⟨bne_iff_ne.mpr hrd, (nonzero_iff _).mpr himm⟩) rfl rfl (encCi_eq hf rfl hop)
  case h_5 hf => exact encodes_of_decodeQ1Alu hop hf hi
  case h_6 hf =>
    cases hi
    exact .of_parcel (append_zero_low _ 1) rfl rfl (encCj_fields h hop hf)
  all_goals
    rename_i hf
    cases hi
    exact .of_parcel (append_zero_low _ 1) rfl rfl (encCb_eq hf hop)

theorem encodes_of_decodeQ2Cr (hop : h.extractLsb' 0 2 = 0b10#2) (hf : h.extractLsb' 13 3 = 0b100#3)
    (hi : decodeQ2Cr h = some i) : Encodes i (h.setWidth 32) 2 := by
  have hcr := encCr_fields h hop
  unfold decodeQ2Cr at hi
  split at hi <;> rename_i h12 <;> rw [hf, h12] at hcr
  case h_1 =>
    split at hi
    case isTrue hrs2 =>
      rw [hrs2] at hcr
      split at hi <;> cases hi
      exact .of_parcel ((nonzero_iff _).mpr ‹_›) rfl rfl hcr
    case isFalse hrs2 =>
      cases hi
      exact .of_parcel ((nonzero_iff _).mpr hrs2) rfl rfl hcr
  case h_2 =>
    split at hi
    case isTrue hrs2 =>
      rw [hrs2] at hcr
      split at hi <;> cases hi
      case isTrue hrd =>
        rw [hrd] at hcr
        exact .of_parcel rfl rfl rfl hcr
      case isFalse hrd => exact .of_parcel ((nonzero_iff _).mpr hrd) rfl rfl hcr
    case isFalse hrs2 =>
      cases hi
      exact .of_parcel ((nonzero_iff _).mpr hrs2) rfl rfl hcr

theorem encodes_of_decodeQ2 (hop : h.extractLsb' 0 2 = 0b10#2) (hi : decodeQ2 h = some i) : Encodes i (h.setWidth 32) 2 := by
  unfold decodeQ2 at hi
  split at hi
  case h_1 hf =>
    cases hi
    exact .of_parcel rfl rfl rfl (encCi_eq hf rfl hop)
  case h_2 hf =>
    cases hi
    exact .of_parcel (append_zero_low _ 3) rfl rfl (encCiDsp_eq hf hop)
  case h_3 hf =>
    split at hi <;> cases hi
    exact .of_parcel (Bool.and_eq_true_iff.mpr ⟨append_zero_low _ 2, (nonzero_iff _).mpr ‹_›⟩) rfl rfl (encCiWsp_eq hf hop)
  case h_4 hf =>
    split at hi <;> cases hi
    exact .of_parcel (Bool.and_eq_true_iff.mpr ⟨append_zero_low _ 3, (nonzero_iff _).mpr ‹_›⟩) rfl rfl (encCiDsp_eq hf hop)
  case h_5 hf => exact encodes_of_decodeQ2Cr hop hf hi
  case h_7 hf =>
    cases hi
    exact .of_parcel (append_zero_low _ 2) rfl rfl (encCssW_eq hf hop)
  all_goals
    rename_i hf
    cases hi
    exact .of_parcel (append_zero_low _ 3) rfl rfl (encCssD_eq hf hop)

theorem encodes_of_decode16 (hi : decode16 h = some i) : Encodes i (h.setWidth 32) 2 := by
  unfold decode16 at hi
  split at hi
  case h_1 hop => exact encodes_of_decodeQ0 hop hi
  case h_2 hop => exact encodes_of_decodeQ1 hop hi
  case h_3 hop => exact encodes_of_decodeQ2 hop hi
  case h_4 => cases hi

/-- A parcel that decodes is not the first of a 32-bit instruction. -/
theorem low2_of_decode16 (hi : decode16 h = some i) : h.extractLsb' 0 2 ≠ 0b11#2 := by
  intro hop
  simp [decode16, hop] at hi

end

/-! ### The fetched word -/

/-- Settles O2: the two low bits say which of the two decoders reads the word. -/
theorem decodedWordIsEncoding : Obligations.DecodedWordIsEncoding := by
  unfold Obligations.DecodedWordIsEncoding
  intro w i h
  unfold decodeInst at h
  split at h
  case isTrue hc =>
    have hlow : w.extractLsb' 0 2 ≠ 0b11#2 := bne_iff_ne.mp hc
    split at h <;> cases h
    obtain ⟨hwf, henc, hlen⟩ := encodes_of_decode16 ‹_›
    rw [if_neg hlow, if_neg hlow]
    exact ⟨hwf, henc, hlen⟩
  case isFalse hc =>
    have hlow : w.extractLsb' 0 2 = 0b11#2 := by simpa [isCompressed] using hc
    split at h
    case h_1 h32 =>
      cases h
      obtain ⟨hwf, henc, hlen⟩ := encodes_of_decode32 h32
      rw [if_pos hlow, if_pos hlow]
      exact ⟨hwf, henc, hlen⟩
    case h_2 => split at h <;> cases h

/-! ### The stored bytes -/

theorem decodeInst_encode_of_len4 {i : Instr} (hlen : i.len = 4) (hwf : i.wf = true) :
    isCompressed (encode i) = false ∧ decodeInst (encode i) = .ok i := by
  have h32 := decode32_encode hlen hwf
  have hc : isCompressed (encode i) = false := by simp [isCompressed, low2_of_decode32 h32]
  exact ⟨hc, by simp [decodeInst, hc, h32]⟩

theorem extractLsb'_low2_setWidth (h : BitVec 16) : (h.setWidth 32).extractLsb' 0 2 = h.extractLsb' 0 2 := by
  refine BitVec.eq_of_getLsbD_eq fun i hi => ?_
  simp [hi, hi.trans (by decide : 2 < 32)]

theorem decodeInst_encode_of_len2 {i : Instr} (hlen : i.len = 2) (hwf : i.wf = true) :
    isCompressed ((parcelOf i).setWidth 32) = true ∧ decodeInst ((parcelOf i).setWidth 32) = .ok i := by
  have h16 := decode16_encode hlen hwf
  have hc : isCompressed ((parcelOf i).setWidth 32) = true := by
    simpa [isCompressed, extractLsb'_low2_setWidth] using low2_of_decode16 h16
  exact ⟨hc, by simp [decodeInst, hc, h16]⟩

theorem bytes_append_parcel (w : BitVec 32) : w.extractLsb' 8 8 ++ w.extractLsb' 0 8 = w.extractLsb' 0 16 := by
  simp (disch := decide) only [BitVec.extractLsb'_append_extractLsb'_eq_extractLsb']

theorem bytes_append_word (w : BitVec 32) :
    w.extractLsb' 24 8 ++ w.extractLsb' 16 8 ++ w.extractLsb' 8 8 ++ w.extractLsb' 0 8 = w := by
  simp (disch := decide) only [BitVec.extractLsb'_append_extractLsb'_eq_extractLsb', BitVec.extractLsb'_eq_self]

theorem isCompressed_parcel (w : BitVec 32) : isCompressed ((w.extractLsb' 0 16).setWidth 32) = isCompressed w := by
  have hlow : (w.extractLsb' 0 16).extractLsb' 0 2 = w.extractLsb' 0 2 := by simp
  rw [isCompressed, extractLsb'_low2_setWidth, hlow, isCompressed]

theorem len_eq (i : Instr) : i.len = 2 ∨ i.len = 4 := by
  cases i <;> exact of_decide_eq_true rfl

/-- Settles O1: the bytes put together are the word or the parcel, which its decoder reads back. -/
theorem encodedInstructionDecodes : Obligations.EncodedInstructionDecodes := by
  unfold Obligations.EncodedInstructionDecodes
  intro i rest hwf
  unfold storedBytes
  rcases len_eq i with hlen | hlen
  · obtain ⟨hc, hi⟩ := decodeInst_encode_of_len2 hlen hwf
    rw [hlen]
    show decode ((encode i).extractLsb' 0 8 :: (encode i).extractLsb' 8 8 :: rest) = _
    simp only [decode, bytes_append_parcel, parcelOf] at hc hi ⊢
    simp only [hc, hi, if_true]
  · obtain ⟨hc, hi⟩ := decodeInst_encode_of_len4 hlen hwf
    rw [← isCompressed_parcel] at hc
    rw [hlen]
    show decode ((encode i).extractLsb' 0 8 :: (encode i).extractLsb' 8 8 :: (encode i).extractLsb' 16 8 ::
      (encode i).extractLsb' 24 8 :: rest) = _
    simp only [decode, bytes_append_parcel, bytes_append_word, hc, hi]
    simp

/-- Settles O3, by running the decoder on the words. -/
theorem exampleWordsDecode : Obligations.ExampleWordsDecode := by
  unfold Obligations.ExampleWordsDecode
  decide

end Sys2Proof
end

section
/-! PROOFS. All that the execution of an instruction can be: which fields of the state it may change, by the class of the
instruction. What holds of every instruction is read off these outcomes. -/

namespace Sys2Proof.Machine

/-- All that `exec i s` can be. -/
inductive ExecOutcome (i : Instr) (s : State) : Result → Prop where
  /-- Only registers change. -/
  | computes (x f : Vector Word 32) (hacc : accessing i = false) : ExecOutcome i s (.next { s with x := x, f := f })
  /-- Registers change and flags are raised. -/
  | raises (x f : Vector Word 32) (fl : Flags) (hacc : accessing i = false) (hfp : floatComputing i = true) :
      ExecOutcome i s (.next { s with x := x, f := f, fcsr := s.fcsr ||| fl.setWidth 8 })
  /-- A register and `fcsr` change. -/
  | accessesCsr (x : Vector Word 32) (fcsr : BitVec 8) (hacc : accessing i = false) (hcsr : csrAccessing i = true) :
      ExecOutcome i s (.next { s with x := x, fcsr := fcsr })
  /-- `pc` is written, with an even value when the instruction is one its encoding can hold. -/
  | transfers (x : Vector Word 32) (pc : Word) (hacc : accessing i = false) (htr : transferring i = true)
      (heven : i.wf = true → s.pc.getLsbD 0 = false → pc.getLsbD 0 = false) :
      ExecOutcome i s (.next { s with x := x, pc := pc, pcModified := true })
  /-- Nothing but `run` changes. -/
  | halts (c : Cause) (info : Word) (hc : c.fatal = true ∨ c.environment = true) : ExecOutcome i s (.next (s.halt c info))
  /-- A byte to access is not allocated. -/
  | stuck (a : Word) (n : Nat) (hn : n ≤ 8) (hb : s.backed a n = false) : ExecOutcome i s (.fault (.unallocated a))
  /-- A load: registers change and the Local Monitor opens. -/
  | loads (x f : Vector Word 32) (hacc : accessing i = true) : ExecOutcome i s (.next { s with x := x, f := f, lm := .open })
  /-- A load-linked: both monitors hold the address. -/
  | links (x : Vector Word 32) (a : Word) (size : MonitorSize) (hacc : accessing i = true) (hll : loadLinking i = true) :
      ExecOutcome i s (.next { s with x := x, lm := .rmw a size, gm := { s.gm with state := .rmw, addr := a } })
  /-- A store or an AMO. -/
  | stores (x : Vector Word 32) (a : Word) (n : Nat) (v : Word) (hacc : accessing i = true) (hst : storing i = true) :
      ExecOutcome i s (.next { s with
        x := x, mem := Memory.writeLE s.mem a n v, lm := .open, harts := s.harts.map (Hart.afterStore s.cfg a n) })
  /-- A store-conditional that succeeds. -/
  | storesConditionally (x : Vector Word 32) (a : Word) (n : Nat) (v : Word) (hacc : accessing i = true)
      (hst : storing i = true) (hcount : s.gm.failCount < s.cfg.scForcedFailPeriod) :
      ExecOutcome i s (.next { s with
        x := x, mem := Memory.writeLE s.mem a n v, lm := .open
        gm := { s.gm with state := .open, failCount := s.gm.failCount + 1 }
        harts := (s.harts.map (Hart.afterStore s.cfg a 1)).map (Hart.afterStore s.cfg a n) })
  /-- A store-conditional that fails. -/
  | failsConditionally (x : Vector Word 32) (gm : GmRecord) (hacc : accessing i = true) (hst : storing i = true)
      (hgm : gm = s.gm ∨ gm = { s.gm with state := .open, failCount := 0 }) :
      ExecOutcome i s (.next { s with x := x, lm := .open, gm := gm })

/-! ### The shared shapes -/

section
variable {i : Instr} (s : State) (rd rs1 rs2 : Reg)

theorem ExecOutcome.of_setReg (v : Word) (hacc : accessing i = false) : ExecOutcome i s (setReg rd v s) :=
  .computes _ _ hacc

theorem ExecOutcome.of_writeF (v : Word) (hacc : accessing i = false) : ExecOutcome i s (.next (s.writeF rd v)) :=
  .computes _ _ hacc

theorem ExecOutcome.of_resultF (r : Word × Flags) (hacc : accessing i = false) (hfp : floatComputing i = true) :
    ExecOutcome i s (.next (s.resultD rd r)) :=
  .raises _ _ r.2 hacc hfp

theorem ExecOutcome.of_resultS (r : BitVec 32 × Flags) (hacc : accessing i = false) (hfp : floatComputing i = true) :
    ExecOutcome i s (.next (s.resultS rd r)) :=
  .raises _ _ r.2 hacc hfp

theorem ExecOutcome.of_resultX (r : Word × Flags) (hacc : accessing i = false) (hfp : floatComputing i = true) :
    ExecOutcome i s (.next (s.resultX rd r)) :=
  .raises _ _ r.2 hacc hfp

theorem ExecOutcome.of_withRm (j : Instr) (rm : BitVec 3) {effect : RoundingMode → State}
    (h : ∀ r, ExecOutcome i s (.next (effect r))) : ExecOutcome i s (withRm j rm effect s) := by
  rcases withRm_cases j rm effect s with ⟨r, -, e⟩ | ⟨-, e⟩ <;> rw [e]
  · exact h r
  · exact .halts _ _ (.inl rfl)

theorem ExecOutcome.of_csrOp (j : Instr) (csr : BitVec 12) (update : Word → Option Word) (hacc : accessing i = false)
    (hcsr : csrAccessing i = true) : ExecOutcome i s (csrOp j rd csr update s) := by
  rcases csrOp_cases j rd csr update s with ⟨t, -, e⟩ | ⟨-, e⟩ <;> rw [e]
  · exact .accessesCsr _ _ hacc hcsr
  · exact .halts _ _ (.inl rfl)

theorem ExecOutcome.of_access (atomic : Bool) (a : Word) {n : Nat} {effect : State → State} (hn : n ≤ 8)
    (h : ExecOutcome i s (.next (effect s))) : ExecOutcome i s (access atomic a n effect s) := by
  rcases access_cases atomic a n effect s with ⟨-, -, e⟩ | ⟨-, hb, e⟩ | ⟨c, -, hc, e⟩ <;> rw [e]
  · exact h
  · exact .stuck a n hn hb
  · exact .halts c a (.inl hc)

theorem ExecOutcome.of_loadX {n : Nat} (ext : Word → Word) (a : Word) (hn : n ≤ 8) (hacc : accessing i = true) :
    ExecOutcome i s (loadX n ext rd a s) :=
  .of_access s _ a hn (.loads _ _ hacc)

theorem ExecOutcome.of_loadF {n : Nat} (ext : Word → Word) (a : Word) (hn : n ≤ 8) (hacc : accessing i = true) :
    ExecOutcome i s (loadF n ext rd a s) :=
  .of_access s _ a hn (.loads _ _ hacc)

theorem ExecOutcome.of_storeV {n : Nat} (a v : Word) (hn : n ≤ 8) (hacc : accessing i = true) (hst : storing i = true) :
    ExecOutcome i s (storeV n a v s) :=
  .of_access s _ a hn (.stores _ a n v hacc hst)

theorem ExecOutcome.of_loadLinked {n : Nat} (size : MonitorSize) (ext : Word → Word) (hn : n ≤ 8)
    (hacc : accessing i = true) (hll : loadLinking i = true) : ExecOutcome i s (loadLinked n size ext rd rs1 s) :=
  .of_access s _ _ hn (.links _ _ size hacc hll)

theorem ExecOutcome.of_amoWord (op : BitVec 32 → BitVec 32 → BitVec 32) (hacc : accessing i = true)
    (hst : storing i = true) : ExecOutcome i s (amoWord op rd rs2 rs1 s) :=
  .of_access s _ _ (by decide) (.stores _ _ 4 _ hacc hst)

theorem ExecOutcome.of_amoDouble (op : Word → Word → Word) (hacc : accessing i = true) (hst : storing i = true) :
    ExecOutcome i s (amoDouble op rd rs2 rs1 s) :=
  .of_access s _ _ (by decide) (.stores _ _ 8 _ hacc hst)

theorem ExecOutcome.of_storeConditional {n : Nat} (size : MonitorSize) (hn : n ≤ 8) (hacc : accessing i = true)
    (hst : storing i = true) : ExecOutcome i s (storeConditional n size rd rs2 rs1 s) := by
  unfold storeConditional
  rcases checked_cases true (s.readX rs1) n _ s with ⟨-, e⟩ | ⟨c, -, hc, e⟩ <;> rw [e]
  case inr => exact .halts c _ (.inl hc)
  dsimp only
  split
  case isFalse => exact .failsConditionally _ s.gm hacc hst (.inl rfl)
  rcases s.notifyStoreConditional.globalStoreConditional_cases (s.readX rs1) with
    ⟨-, hok, e⟩ | ⟨-, -, -, hok, e⟩ | ⟨-, -, hcount, hok, e⟩
  all_goals replace hok : s.globalOk (s.readX rs1) = _ := hok
  · rw [hok, if_neg Bool.false_ne_true, e]
    exact .failsConditionally _ s.gm hacc hst (.inl rfl)
  · rw [hok, if_neg Bool.false_ne_true, e]
    exact .failsConditionally _ _ hacc hst (.inr rfl)
  · rw [if_pos hok]
    rcases onBacked_cases (s.readX rs1) n _ s.notifyStoreConditional with ⟨-, e'⟩ | ⟨hb, e'⟩ <;> rw [e']
    · rw [e]
      exact .storesConditionally _ _ n _ hacc hst hcount
    · exact .stuck _ n hn hb

end
end Sys2Proof.Machine
end

section
/-! PROOFS. Every instruction's execution is one of the outcomes of `ExecOutcome`. -/

namespace Sys2Proof.Machine

theorem getLsbD_zero_clearBit0 (a : Word) : (clearBit0 a).getLsbD 0 = false := by simp [clearBit0]

theorem getLsbD_zero_add_sext {w : Nat} {pc : Word} {off : BitVec w} (hpc : pc.getLsbD 0 = false)
    (hoff : WellFormed.even off = true) : (pc + sext off).getLsbD 0 = false := by
  have hoff : (sext off).getLsbD 0 = false := by
    have h : off.getLsbD 0 = false := by simpa using congrArg (BitVec.getLsbD · 0) (eq_of_beq hoff)
    rw [sext, BitVec.getLsbD_signExtend, h]
    rcases Nat.eq_zero_or_pos w with rfl | hw
    · rw [BitVec.of_length_zero (x := off)]; rfl
    · rw [if_pos hw]; rfl
  rw [BitVec.getLsbD_add (by decide), hpc, hoff, BitVec.carry_zero]
  rfl

theorem ExecOutcome.of_branch {i : Instr} (s : State) (taken : Bool) (offset : Word) (hacc : accessing i = false)
    (htr : transferring i = true)
    (heven : i.wf = true → s.pc.getLsbD 0 = false → (s.pc + offset).getLsbD 0 = false) :
    ExecOutcome i s (branch taken offset s) := by
  cases taken
  · exact .computes s.x s.f hacc
  · exact .transfers s.x _ hacc htr heven

/-- An instruction with one of the opcodes OP-FP, FMADD, FMSUB, FNMSUB, FNMADD computes on floating-point numbers. -/
theorem floatComputing_of_opcode {i : Instr}
    (h : i.row.pattern.toNat % 128 ∈ [0b1010011, 0b1000011, 0b1000111, 0b1001011, 0b1001111]) :
    floatComputing i = true := by
  have e : i.row.pattern.extractLsb' 0 7 ∈ [0b1010011#7, 0b1000011, 0b1000111, 0b1001011, 0b1001111] := by
    simpa [← BitVec.toNat_inj] using h
  unfold floatComputing
  simp only [List.mem_cons, List.not_mem_nil, or_false] at e
  rcases e with e | e | e | e | e <;> rw [e] <;> rfl

theorem exec_outcome (i : Instr) (s : State) : ExecOutcome i s (exec i s) := by
  cases i <;> unfold exec
  case lui _ _ | auipc _ _ | addi _ _ _ | slti _ _ _ | sltiu _ _ _ | xori _ _ _ | ori _ _ _ | andi _ _ _ | slli _ _ _ |
      srli _ _ _ | srai _ _ _ | add _ _ _ | sub _ _ _ | sll _ _ _ | slt _ _ _ | sltu _ _ _ | xor _ _ _ | srl _ _ _ |
      sra _ _ _ | or _ _ _ | and _ _ _ | addiw _ _ _ | slliw _ _ _ | srliw _ _ _ | sraiw _ _ _ | addw _ _ _ |
      subw _ _ _ | sllw _ _ _ | srlw _ _ _ | sraw _ _ _ | mul _ _ _ | mulh _ _ _ | mulhsu _ _ _ | mulhu _ _ _ |
      div _ _ _ | divu _ _ _ | rem _ _ _ | remu _ _ _ | mulw _ _ _ | divw _ _ _ | divuw _ _ _ | remw _ _ _ |
      remuw _ _ _ | fmvXW _ _ | fclassS _ _ | fmvXD _ _ | fclassD _ _ | cAddi4spn _ _ | cAddi _ _ | cAddiw _ _ |
      cLi _ _ | cAddi16sp _ | cLui _ _ | cSrli _ _ | cSrai _ _ | cAndi _ _ | cSub _ _ | cXor _ _ | cOr _ _ | cAnd _ _ |
      cSubw _ _ | cAddw _ _ | cSlli _ _ | cMv _ _ | cAdd _ _ =>
    exact .of_setReg s _ _ rfl
  case fsgnjS _ _ _ | fsgnjnS _ _ _ | fsgnjxS _ _ _ | fmvWX _ _ | fsgnjD _ _ _ | fsgnjnD _ _ _ | fsgnjxD _ _ _ |
      fmvDX _ _ =>
    exact .of_writeF s _ _ rfl
  case fence _ _ _ _ _ | fenceI _ _ _ | cNop _ =>
    exact .computes s.x s.f rfl
  case ecall | ebreak | cEbreak =>
    exact .halts _ _ (.inr rfl)
  case csrrw rd csr rs1 =>
    exact .of_csrOp s rd _ csr (fun _ => some (s.readX rs1)) rfl rfl
  case csrrwi rd csr uimm =>
    exact .of_csrOp s rd _ csr (fun _ => some (zext uimm)) rfl rfl
  case csrrs _ _ _ | csrrc _ _ _ | csrrsi _ _ _ | csrrci _ _ _ =>
    exact .of_csrOp s _ _ _ _ rfl rfl
  case fmaddS _ _ _ _ _ | fmsubS _ _ _ _ _ | fnmsubS _ _ _ _ _ | fnmaddS _ _ _ _ _ | faddS _ _ _ _ | fsubS _ _ _ _ |
      fmulS _ _ _ _ | fdivS _ _ _ _ | fsqrtS _ _ _ | fcvtSW _ _ _ | fcvtSWu _ _ _ | fcvtSL _ _ _ | fcvtSLu _ _ _ |
      fcvtSD _ _ _ =>
    exact .of_withRm s _ _ fun _ => .of_resultS s _ _ rfl (floatComputing_of_opcode (by unfold Instr.row; dsimp only; decide))
  case fmaddD _ _ _ _ _ | fmsubD _ _ _ _ _ | fnmsubD _ _ _ _ _ | fnmaddD _ _ _ _ _ | faddD _ _ _ _ | fsubD _ _ _ _ |
      fmulD _ _ _ _ | fdivD _ _ _ _ | fsqrtD _ _ _ | fcvtDW _ _ _ | fcvtDWu _ _ _ | fcvtDL _ _ _ | fcvtDLu _ _ _ |
      fcvtDS _ _ _ =>
    exact .of_withRm s _ _ fun _ => .of_resultF s _ _ rfl (floatComputing_of_opcode (by unfold Instr.row; dsimp only; decide))
  case fcvtWS _ _ _ | fcvtWuS _ _ _ | fcvtLS _ _ _ | fcvtLuS _ _ _ | fcvtWD _ _ _ | fcvtWuD _ _ _ | fcvtLD _ _ _ |
      fcvtLuD _ _ _ =>
    exact .of_withRm s _ _ fun _ => .of_resultX s _ _ rfl (floatComputing_of_opcode (by unfold Instr.row; dsimp only; decide))
  case fminS _ _ _ | fmaxS _ _ _ =>
    exact .of_resultS s _ _ rfl (floatComputing_of_opcode (by unfold Instr.row; dsimp only; decide))
  case fminD _ _ _ | fmaxD _ _ _ =>
    exact .of_resultF s _ _ rfl (floatComputing_of_opcode (by unfold Instr.row; dsimp only; decide))
  case fleS _ _ _ | fltS _ _ _ | feqS _ _ _ | fleD _ _ _ | fltD _ _ _ | feqD _ _ _ =>
    exact .of_resultX s _ _ rfl (floatComputing_of_opcode (by unfold Instr.row; dsimp only; decide))
  case lb _ _ _ | lbu _ _ _ =>
    exact .of_loadX (n := 1) s _ _ _ (by decide) rfl
  case lh _ _ _ | lhu _ _ _ =>
    exact .of_loadX (n := 2) s _ _ _ (by decide) rfl
  case lw _ _ _ | lwu _ _ _ | cLw _ _ _ | cLwsp _ _ =>
    exact .of_loadX (n := 4) s _ _ _ (by decide) rfl
  case ld _ _ _ | cLd _ _ _ | cLdsp _ _ =>
    exact .of_loadX (n := 8) s _ _ _ (by decide) rfl
  case flw _ _ _ =>
    exact .of_loadF (n := 4) s _ _ _ (by decide) rfl
  case fld _ _ _ | cFld _ _ _ | cFldsp _ _ =>
    exact .of_loadF (n := 8) s _ _ _ (by decide) rfl
  case sb _ _ _ =>
    exact .of_storeV (n := 1) s _ _ (by decide) rfl rfl
  case sh _ _ _ =>
    exact .of_storeV (n := 2) s _ _ (by decide) rfl rfl
  case sw _ _ _ | fsw _ _ _ | cSw _ _ _ | cSwsp _ _ =>
    exact .of_storeV (n := 4) s _ _ (by decide) rfl rfl
  case sd _ _ _ | fsd _ _ _ | cFsd _ _ _ | cSd _ _ _ | cFsdsp _ _ | cSdsp _ _ =>
    exact .of_storeV (n := 8) s _ _ (by decide) rfl rfl
  case lrW _ _ _ _ =>
    exact .of_loadLinked (n := 4) s _ _ _ _ (by decide) rfl rfl
  case lrD _ _ _ _ =>
    exact .of_loadLinked (n := 8) s _ _ _ _ (by decide) rfl rfl
  case scW _ _ _ _ _ =>
    exact .of_storeConditional (n := 4) s _ _ _ _ (by decide) rfl rfl
  case scD _ _ _ _ _ =>
    exact .of_storeConditional (n := 8) s _ _ _ _ (by decide) rfl rfl
  case amoswapW _ _ _ _ _ | amoaddW _ _ _ _ _ | amoxorW _ _ _ _ _ | amoandW _ _ _ _ _ | amoorW _ _ _ _ _ |
      amominW _ _ _ _ _ | amomaxW _ _ _ _ _ | amominuW _ _ _ _ _ | amomaxuW _ _ _ _ _ =>
    exact .of_amoWord s _ _ _ _ rfl rfl
  case amoswapD _ _ _ _ _ | amoaddD _ _ _ _ _ | amoxorD _ _ _ _ _ | amoandD _ _ _ _ _ | amoorD _ _ _ _ _ |
      amominD _ _ _ _ _ | amomaxD _ _ _ _ _ | amominuD _ _ _ _ _ | amomaxuD _ _ _ _ _ =>
    exact .of_amoDouble s _ _ _ _ rfl rfl
  case jal _ _ =>
    exact .transfers _ _ rfl rfl fun hwf hpc => getLsbD_zero_add_sext hpc hwf
  case cJ _ =>
    exact .transfers s.x _ rfl rfl fun hwf hpc => getLsbD_zero_add_sext hpc hwf
  case jalr _ _ _ | cJalr _ =>
    exact .transfers _ _ rfl rfl fun _ _ => getLsbD_zero_clearBit0 _
  case cJr _ =>
    exact .transfers s.x _ rfl rfl fun _ _ => getLsbD_zero_clearBit0 _
  case beq _ _ _ | bne _ _ _ | blt _ _ _ | bge _ _ _ | bltu _ _ _ | bgeu _ _ _ | cBeqz _ _ | cBnez _ _ =>
    exact .of_branch s _ _ rfl rfl fun hwf hpc => getLsbD_zero_add_sext hpc hwf

end Sys2Proof.Machine
end

section
/-! PROOFS. What every instruction keeps, read off the outcomes of `ExecOutcome`: control transfers, `fcsr`, memory and the
monitors. -/

namespace Sys2Proof.Machine

/-! ### The flags -/

@[simp] theorem frmOf_raise (fcsr : BitVec 8) (fl : Flags) : frmOf (fcsr ||| fl.setWidth 8) = frmOf fcsr := by
  refine BitVec.eq_of_getLsbD_eq fun i hi => ?_
  simp only [frmOf, BitVec.getLsbD_extractLsb', BitVec.getLsbD_or, BitVec.getLsbD_setWidth,
    BitVec.getLsbD_of_ge fl (5 + i) (by omega), Bool.and_false, Bool.or_false]

@[simp] theorem fflagsOf_raise (fcsr : BitVec 8) (fl : Flags) : fflagsOf (fcsr ||| fl.setWidth 8) = fflagsOf fcsr ||| fl := by
  refine BitVec.eq_of_getLsbD_eq fun i hi => ?_
  simp only [fflagsOf, BitVec.getLsbD_extractLsb', BitVec.getLsbD_or, BitVec.getLsbD_setWidth, Nat.zero_add, hi,
    decide_true, Bool.true_and, show i < 8 by omega]

/-! ### The obligations over all instructions -/

/-- Settles O12: of all the outcomes only a transfer writes `pc`, and its target is even. -/
theorem transfersWriteEvenPc : Obligations.TransfersWriteEvenPc := by
  intro i s t h
  have o := exec_outcome i s
  rw [h] at o
  cases o
  case transfers x pc _ htr heven => exact ⟨fun h => by simp [h] at htr, heven⟩
  all_goals exact ⟨fun _ => ⟨rfl, rfl⟩, fun _ hpc => hpc⟩

/-- Settles O20: of all the outcomes only two write `fcsr`; a computation raises flags, and no other but a CSR instruction
remains. -/
theorem flagsAreSticky : Obligations.FlagsAreSticky := by
  intro i s t h hcsr
  have o := exec_outcome i s
  rw [h] at o
  cases o
  case raises x f fl _ hfp =>
    refine ⟨frmOf_raise .., ?_, fun h => by simp [h] at hfp⟩
    show fflagsOf (s.fcsr ||| fl.setWidth 8) ||| fflagsOf s.fcsr = fflagsOf (s.fcsr ||| fl.setWidth 8)
    rw [fflagsOf_raise, BitVec.or_comm, ← BitVec.or_assoc, BitVec.or_self]
  case accessesCsr x fcsr _ hcsr' => simp [hcsr] at hcsr'
  all_goals exact ⟨rfl, BitVec.or_self, fun _ => rfl⟩

/-- Settles O26: each outcome names the class of the instructions it belongs to. -/
theorem accessEffects : Obligations.AccessEffects := by
  intro i s t h
  have o := exec_outcome i s
  rw [h] at o
  cases o
  case computes hacc | raises hacc _ | accessesCsr hacc _ | transfers hacc _ _ =>
    exact ⟨fun _ => ⟨rfl, rfl⟩, fun _ => rfl, fun h => by simp [hacc] at h, fun _ _ => rfl⟩
  case halts c info _ =>
    refine ⟨fun _ => ⟨rfl, rfl⟩, fun _ => rfl, fun _ _ hrun hr => ?_, fun _ _ => rfl⟩
    cases hrun.trans hr
  case loads hacc => exact ⟨fun _ => ⟨rfl, rfl⟩, fun h => by simp [hacc] at h, fun _ _ _ _ => rfl, fun _ _ => rfl⟩
  case links hacc hll =>
    exact ⟨fun _ => ⟨rfl, rfl⟩, fun h => by simp [hacc] at h, fun _ h => by simp [hll] at h, fun _ h => by simp [hll] at h⟩
  case stores hacc hst | storesConditionally hacc hst _ | failsConditionally hacc hst _ =>
    exact ⟨fun h => by simp [hst] at h, fun h => by simp [hacc] at h, fun _ _ _ _ => rfl, fun h => by simp [hst] at h⟩

end Sys2Proof.Machine
end

section
/-! PROOFS. The step: what an instruction that completes may change, scalar or vector, and all that a hart's step can be. -/

namespace Sys2Proof.Machine

/-! ### An opened reservation -/

theorem OnlyReservationOpened.refl (h : Hart) : OnlyReservationOpened h h := .inl rfl

theorem OnlyReservationOpened.trans {g h k : Hart} (hgh : OnlyReservationOpened g h) (hhk : OnlyReservationOpened h k) :
    OnlyReservationOpened g k := by
  rcases hgh with rfl | ⟨hg, rfl⟩
  · exact hhk
  · rcases hhk with rfl | ⟨-, rfl⟩
    · exact .inr ⟨hg, rfl⟩
    · exact .inr ⟨hg, rfl⟩

theorem OnlyReservationOpened.afterStore (cfg : Config) (a : Word) (n : Nat) (h : Hart) :
    OnlyReservationOpened h (h.afterStore cfg a n) := by
  unfold Hart.afterStore GmRecord.afterStore
  split
  · exact .inr ⟨(‹_ ∧ _›).1, rfl⟩
  · exact .inl rfl

theorem OnlyReservationOpened.hartId_eq {g h : Hart} (hgh : OnlyReservationOpened g h) : h.hartId = g.hartId := by
  rcases hgh with rfl | ⟨-, rfl⟩ <;> rfl

theorem OnlyReservationOpened.ok {cfg : Config} {g h : Hart} (hgh : OnlyReservationOpened g h) (hg : g.Ok cfg) :
    h.Ok cfg := by
  rcases hgh with rfl | ⟨-, rfl⟩
  · exact hg
  · exact { hg with }

/-- Of each of the harts at most its reservation was opened. -/
def OnlyReservationsOpened : List Hart → List Hart → Prop := List.Forall₂ OnlyReservationOpened

theorem OnlyReservationsOpened.refl (l : List Hart) : OnlyReservationsOpened l l :=
  List.forall₂_same.mpr fun h _ => .refl h

theorem OnlyReservationsOpened.trans {l l' l'' : List Hart} (h : OnlyReservationsOpened l l')
    (h' : OnlyReservationsOpened l' l'') : OnlyReservationsOpened l l'' := by
  induction h generalizing l'' with
  | nil => exact h'
  | cons hgh _ ih =>
    cases h' with
    | cons hhk hrest => exact .cons (hgh.trans hhk) (ih hrest)

theorem OnlyReservationsOpened.afterStore (cfg : Config) (a : Word) (n : Nat) (l : List Hart) :
    OnlyReservationsOpened l (l.map (Hart.afterStore cfg a n)) :=
  List.forall₂_map_right_iff.mpr <| List.forall₂_same.mpr fun h _ => .afterStore cfg a n h

theorem OnlyReservationsOpened.map_hartId_eq {l l' : List Hart} (h : OnlyReservationsOpened l l') :
    l'.map Hart.hartId = l.map Hart.hartId := by
  induction h with
  | nil => rfl
  | cons hgh _ ih => rw [List.map_cons, List.map_cons, hgh.hartId_eq, ih]

theorem OnlyReservationsOpened.ok {cfg : Config} {l l' : List Hart} (h : OnlyReservationsOpened l l')
    (hl : ∀ g ∈ l, g.Ok cfg) : ∀ g ∈ l', g.Ok cfg := by
  induction h with
  | nil => exact hl
  | cons hgh _ ih =>
    rw [List.forall_mem_cons] at hl ⊢
    exact ⟨hgh.ok hl.1, ih hl.2⟩

/-! ### An instruction that completes -/

/-- A pending Local Monitor is at the address of the hart's Global Monitor record. -/
def Linked (h : Hart) : Prop := ∀ a size, h.lm = .rmw a size → h.gm.addr = a

/-- What an instruction that completes leaves unchanged, and what it keeps, before the end of its step. -/
structure Completes (s t : State) : Prop where
  frame : { t with
    x := s.x, f := s.f, pc := s.pc, pcModified := s.pcModified, fcsr := s.fcsr, lm := s.lm, gm := s.gm
    vecUnit := s.vecUnit, harts := s.harts, mem := s.mem } = s
  memory : Memory.wf s.mem = true → Memory.wf t.mem = true
  others : OnlyReservationsOpened s.harts t.harts
  pcEven : s.pc.getLsbD 0 = false → t.pc.getLsbD 0 = false
  failCount : s.gm.failCount ≤ s.cfg.scForcedFailPeriod → t.gm.failCount ≤ s.cfg.scForcedFailPeriod
  linked : Linked s.toHart → Linked t.toHart

theorem linked_of_open {h : Hart} (e : h.lm = .open) : Linked h := fun _ _ h => by simp [e] at h

/-- All that the execution of one instruction, scalar or vector, can be. -/
inductive Executed (s : State) : Result → Prop where
  | completes (t : State) (h : Completes s t) : Executed s (.next t)
  | halts (c : Cause) (info : Word) (hc : c.fatal = true ∨ c.environment = true) : Executed s (.next (s.halt c info))
  | stuck (a : Word) (n : Nat) (hn : n ≤ 8) (hb : s.backed a n = false) : Executed s (.fault (.unallocated a))

theorem ExecOutcome.executed {i : Instr} {s : State} {r : Result} (h : ExecOutcome i s r) (hwf : i.wf = true) :
    Executed s r := by
  cases h
  case computes x f _ =>
    exact .completes _ ⟨rfl, id, .refl _, id, id, id⟩
  case raises x f fl _ _ =>
    exact .completes _ ⟨rfl, id, .refl _, id, id, id⟩
  case accessesCsr x fcsr _ _ =>
    exact .completes _ ⟨rfl, id, .refl _, id, id, id⟩
  case transfers x pc _ _ heven =>
    exact .completes _ ⟨rfl, id, .refl _, heven hwf, id, id⟩
  case halts c info hc => exact .halts c info hc
  case stuck a n hn hb => exact .stuck a n hn hb
  case loads x f _ =>
    exact .completes _ ⟨rfl, id, .refl _, id, id, fun _ => linked_of_open rfl⟩
  case links x a size _ _ =>
    exact .completes _ ⟨rfl, id, .refl _, id, id, fun _ _ _ h => by cases h; rfl⟩
  case stores x a n v _ _ =>
    exact .completes _ ⟨rfl, Memory.wf_writeLE a n v, .afterStore .., id, id, fun _ => linked_of_open rfl⟩
  case storesConditionally x a n v _ _ hcount =>
    exact .completes _ ⟨rfl, Memory.wf_writeLE a n v, (OnlyReservationsOpened.afterStore ..).trans (.afterStore ..), id,
      fun _ => hcount, fun _ => linked_of_open rfl⟩
  case failsConditionally x gm _ _ hgm =>
    refine .completes _ ⟨rfl, id, .refl _, id, fun h => ?_, fun _ => linked_of_open rfl⟩
    rcases hgm with rfl | rfl
    · exact h
    · exact Nat.zero_le _

theorem exec_executed {i : Instr} (hwf : i.wf = true) (s : State) : Executed s (exec i s) := (exec_outcome i s).executed hwf

/-! ### A vector instruction -/

/-- What the accesses of a vector instruction leave unchanged, and what they keep. -/
structure AccessesDone (s u : State) : Prop where
  frame : { u with lm := s.lm, harts := s.harts, mem := s.mem } = s
  memory : Memory.wf s.mem = true → Memory.wf u.mem = true
  others : OnlyReservationsOpened s.harts u.harts
  monitor : u.lm = s.lm ∨ u.lm = .open

theorem AccessesDone.refl (s : State) : AccessesDone s s := ⟨rfl, id, .refl _, .inl rfl⟩

theorem AccessesDone.trans {s t u : State} (h : AccessesDone s t) (h' : AccessesDone t u) : AccessesDone s u := by
  obtain ⟨hframe, hmem, hothers, hlm⟩ := h
  obtain ⟨hframe', hmem', hothers', hlm'⟩ := h'
  refine ⟨?_, hmem' ∘ hmem, hothers.trans hothers', ?_⟩
  · rw [← hframe'] at hframe
    exact hframe
  · rcases hlm' with e | e
    · rw [e]; exact hlm
    · exact .inr e

theorem State.vectorAccess_ok {s u : State} {a : VectorAccess} (h : s.vectorAccess a = .ok u) : AccessesDone s u := by
  cases a with
  | read a k =>
    rcases s.vectorAccessAt_cases a (2 ^ k.val) s.notifyLoad with ⟨-, -, e⟩ | ⟨-, -, e⟩ | ⟨c, -, e⟩
    all_goals rw [State.vectorAccess, e] at h; cases h
    exact ⟨rfl, id, .refl _, .inr rfl⟩
  | write a k v =>
    rcases s.vectorAccessAt_cases a (2 ^ k.val) (s.store a (2 ^ k.val) v) with ⟨-, -, e⟩ | ⟨-, -, e⟩ | ⟨c, -, e⟩
    all_goals rw [State.vectorAccess, e] at h; cases h
    exact ⟨rfl, Memory.wf_writeLE a (2 ^ k.val) v, .afterStore .., .inr rfl⟩

theorem State.vectorAccesses_ok {s u : State} {l : List VectorAccess} (h : s.vectorAccesses l = .ok u) :
    AccessesDone s u := by
  induction l generalizing s with
  | nil => cases h; exact .refl _
  | cons a l ih =>
    rw [State.vectorAccesses] at h
    cases ha : s.vectorAccess a with
    | error e => rw [ha] at h; cases h
    | ok t => rw [ha] at h; exact (State.vectorAccess_ok ha).trans (ih h)

/-- Why an access of a vector instruction stops: a failed check, or bytes outside the allocated set. -/
def VectorStop.Justified (s : State) : VectorStop → Prop
  | .halt c _ => c.fatal = true
  | .unallocated a => ∃ n ≤ 8, s.backed a n = false

theorem AccessesDone.allocated_eq {s t : State} (h : AccessesDone s t) : t.allocated = s.allocated :=
  (congrArg State.allocated h.frame :)

theorem State.backed_congr {s t : State} (h : t.allocated = s.allocated) (a : Word) (n : Nat) :
    t.backed a n = s.backed a n := by
  simp only [State.backed, State.backs, h]

theorem VectorStop.Justified.of_done {s t : State} (h : AccessesDone s t) {e : VectorStop} (he : e.Justified t) :
    e.Justified s := by
  cases e with
  | halt c a => exact he
  | unallocated a =>
    obtain ⟨n, hn, hb⟩ := he
    exact ⟨n, hn, (State.backed_congr h.allocated_eq a n).symm.trans hb⟩

theorem State.vectorAccessAt_error {s : State} {a : Word} {n : Nat} {effect : State} {e : VectorStop} (hn : n ≤ 8)
    (h : s.vectorAccessAt a n effect = .error e) : e.Justified s := by
  rcases s.vectorAccessAt_cases a n effect with ⟨-, -, e'⟩ | ⟨-, hb, e'⟩ | ⟨c, hc, e'⟩
  all_goals rw [e'] at h; cases h
  · exact ⟨n, hn, hb⟩
  · rcases s.accessCheck_eq_some false a n hc with ⟨rfl, -⟩ | ⟨rfl, -⟩ <;> rfl

theorem two_pow_fin_four_le (k : Fin 4) : 2 ^ k.val ≤ 8 := Nat.pow_le_pow_right (n := 2) (by decide) (show k.val ≤ 3 by omega)

theorem State.vectorAccess_error {s : State} {a : VectorAccess} {e : VectorStop} (h : s.vectorAccess a = .error e) :
    e.Justified s := by
  cases a with
  | read a k | write a k v => exact State.vectorAccessAt_error (two_pow_fin_four_le k) h

theorem State.vectorAccesses_error {s : State} {l : List VectorAccess} {e : VectorStop}
    (h : s.vectorAccesses l = .error e) : e.Justified s := by
  induction l generalizing s with
  | nil => cases h
  | cons a l ih =>
    rw [State.vectorAccesses] at h
    cases ha : s.vectorAccess a with
    | error e' => rw [ha] at h; cases h; exact State.vectorAccess_error ha
    | ok t => rw [ha] at h; exact (ih h).of_done (State.vectorAccess_ok ha)

/-- The answer of the vector unit changes registers, flags and the unit's state. -/
theorem State.vectorResult_eq (s : State) (w : BitVec 32) (r : VectorAnswer) :
    ∃ x f, s.vectorResult w r = { s with x := x, f := f, fcsr := s.fcsr ||| r.flags.setWidth 8, vecUnit := r.unit } := by
  unfold State.vectorResult
  cases r.xrd <;> cases r.frd <;> exact ⟨_, _, rfl⟩

theorem vectorWord_executed (w : BitVec 32) (s : State) : Executed s (vectorWord w s) := by
  unfold vectorWord
  split
  case isFalse => exact .halts _ _ (.inl rfl)
  dsimp only
  split
  case h_1 c a e => exact .halts c a (.inl (State.vectorAccesses_error e))
  case h_2 a e =>
    obtain ⟨n, hn, hb⟩ := State.vectorAccesses_error e
    exact .stuck a n hn hb
  case h_3 u e =>
    obtain ⟨hframe, hmem, hothers, hlm⟩ := State.vectorAccesses_ok e
    obtain ⟨x, f, e⟩ := u.vectorResult_eq w (Config.vectorUnit (s.vectorRequest w))
    rw [e]
    have hpc : u.pc = s.pc := congrArg (fun t => t.toHart.pc) hframe
    have hgm : u.gm = s.gm := congrArg (fun t => t.toHart.gm) hframe
    refine .completes _ ⟨?_, hmem, hothers, fun h => ?_, fun h => ?_, fun h => ?_⟩
    · conv_rhs => rw [← hframe]
      rw [← hframe]
    · show u.pc.getLsbD 0 = false
      rw [hpc]; exact h
    · show u.gm.failCount ≤ _
      rw [hgm]; exact h
    · rcases hlm with e | e
      · intro a size ha
        show u.gm.addr = a
        rw [hgm]
        exact h a size (e.symm.trans ha)
      · exact linked_of_open e

/-! ### The step of a hart -/

/-- The causes of the stops between instructions. -/
def Cause.betweenInstructions : Cause → Bool
  | .sentinel | .breakpointHit | .icountStop => true
  | _ => false

/-- All that a hart's step can be. -/
inductive HartStep (s : State) : Result → Prop where
  | idle (h : s.run ≠ .running ∨ s.attached = false) : HartStep s (.next s)
  /-- A stop between instructions. -/
  | stops (c : Cause) (info : Word) (bps : List BreakpointEntry) (hrun : s.run = .running)
      (hc : c.betweenInstructions = true) :
      HartStep s (.next { s with resumeSkip := false, breakpoints := bps, run := .halted c info })
  /-- A fatal halt, at the fetch or in the execution. -/
  | halts (m : Bool) (c : Cause) (info : Word) (hm : m = s.pcModified ∨ m = false) (hrun : s.run = .running)
      (hc : c.fatal = true) :
      HartStep s (.next { s with resumeSkip := false, pcModified := m, run := .halted c info })
  /-- A halt with an environment cause, which is counted. -/
  | traps (c : Cause) (info : Word) (hrun : s.run = .running) (hc : c.environment = true) :
      HartStep s (.next { s with
        resumeSkip := false, pcModified := false, run := .halted c info, icount := s.icount + 1 })
  /-- An instruction that completes. -/
  | completes (t : State) (len : Nat) (hlen : len = 2 ∨ len = 4) (hrun : s.run = .running)
      (h : Completes { s with resumeSkip := false, pcModified := false } t) :
      HartStep s (.next { t with
        pc := if t.pcModified then t.pc else t.pc + BitVec.ofNat 64 len
        pcModified := false
        icount := s.icount + 1 })
  | stuck (a : Word) (n : Nat) (hn : n ≤ 8) (hb : s.backed a n = false) : HartStep s (.fault (.unallocated a))

theorem Cause.environment_of_fatal {c : Cause} (h : c.fatal = true) : c.environment = false := by
  cases c <;> simp_all [Cause.fatal, Cause.environment]

theorem HartStep.of_executed {s : State} {r : Result} {len : Nat} (hlen : len = 2 ∨ len = 4) (hrun : s.run = .running)
    (h : Executed { s with resumeSkip := false, pcModified := false } r) : HartStep s (retireResult len r) := by
  cases h with
  | completes t h =>
    have hrun' : t.run = .running := (congrArg (fun u => u.toHart.run) h.frame).trans hrun
    have hicount : t.icount = s.icount := congrArg (fun u => u.toHart.icount) h.frame
    rcases t.retire_cases len with ⟨-, e⟩ | ⟨c, info, hc, -, -⟩ | ⟨c, info, hc, -, -⟩
    · rw [retireResult, e, hicount]
      exact .completes t len hlen hrun h
    · cases hrun'.symm.trans hc
    · cases hrun'.symm.trans hc
  | halts c info hc =>
    rcases hc with hc | hc
    · show HartStep s (.next (State.retire len (State.halt { s with resumeSkip := false, pcModified := false } c info)))
      simp only [State.retire, State.halt, Cause.environment_of_fatal hc]
      exact .halts false c info (.inr rfl) hrun hc
    · show HartStep s (.next (State.retire len (State.halt { s with resumeSkip := false, pcModified := false } c info)))
      simp only [State.retire, State.halt, hc]
      exact .traps c info hrun hc
  | stuck a n hn hb => exact .stuck a n hn hb

theorem State.stopCause_betweenInstructions {s : State} {skip : Bool} {c : Cause} (h : s.stopCause skip = some c) :
    c.betweenInstructions = true := by
  unfold State.stopCause at h
  split at h
  · cases h; rfl
  · split at h
    · cases h
    · split at h
      · cases h; rfl
      · split at h <;> cases h
        rfl

theorem State.stopAt_eq {s : State} {c : Cause} (hc : c.betweenInstructions = true) :
    ∃ info bps, s.stopAt c = { s with breakpoints := bps, run := .halted c info } := by
  cases c <;> cases hc
  all_goals exact ⟨_, _, rfl⟩

theorem State.fetch_error_fatal {s : State} {c : Cause} (h : s.fetch = .error c) : c.fatal = true := by
  unfold State.fetch at h
  split at h
  · cases h; rfl
  · split at h
    · cases h; rfl
    · dsimp only at h
      split at h <;> cases h

theorem fetchedLength_le (w : BitVec 32) : fetchedLength w ≤ 8 := by
  unfold fetchedLength
  split <;> decide

theorem State.stepHart_hartStep (s : State) : HartStep s (s.stepHart exec) := by
  rcases s.stepHart_cases exec with ⟨h, e⟩ | ⟨hrun, -, h⟩
  · rw [e]; exact .idle h
  rcases h with ⟨c, hc, e⟩ | ⟨-, c, hc, e⟩ | ⟨-, w, -, ⟨-, e⟩ | ⟨hb, e⟩⟩ <;> rw [e]
  · have hc := State.stopCause_betweenInstructions hc
    obtain ⟨info, bps, e⟩ := State.stopAt_eq (s := { s with resumeSkip := false }) hc
    rw [e]
    exact .stops c info bps hrun hc
  · exact .halts s.pcModified c s.pc (.inl rfl) hrun (State.fetch_error_fatal hc)
  · rcases State.runWord_cases exec { s with resumeSkip := false } w with ⟨i, hi, e⟩ | ⟨-, e⟩ | ⟨-, -, -, e⟩ <;> rw [e]
    · exact .of_executed (len_eq i) hrun (exec_executed (decodedWordIsEncoding w i hi).1 _)
    · exact .of_executed (.inr rfl) hrun (vectorWord_executed w _)
    · exact .halts false _ _ (.inr rfl) hrun rfl
  · exact .stuck s.pc _ (fetchedLength_le w) hb

end Sys2Proof.Machine
end

section
/-! PROOFS. What every step keeps: the invariant, the count of instructions, precise halts, the isolation of the harts. -/

namespace Sys2Proof.Machine

/-! ### Which hart moves -/

theorem State.switchHart_cases (s : State) :
    (s.schedule = [] ∧ s.switchHart = s) ∨
      ∃ id rest, s.schedule = id :: rest ∧ s.switchHart = State.swapHart { s with schedule := rest } id := by
  unfold State.switchHart
  split
  · exact .inl ⟨‹_›, rfl⟩
  · exact .inr ⟨_, _, ‹_›, rfl⟩

theorem State.switchHart_allHarts (s : State) : s.switchHart.allHarts.Perm s.allHarts := by
  rcases s.switchHart_cases with ⟨-, e⟩ | ⟨id, rest, -, e⟩ <;> rw [e]
  exact State.swapHart_allHarts _ id

/-- A swap leaves the shared state. -/
theorem State.swapHart_frame (s : State) (id : Nat) :
    { s.swapHart id with toHart := s.toHart, attached := s.attached, harts := s.harts } = s := by
  rcases s.swapHart_spec id with e | ⟨h, rest, -, -, e⟩ <;> rw [e]

/-- The switch leaves the shared state, but for the schedule. -/
theorem State.switchHart_frame (s : State) :
    { s.switchHart with toHart := s.toHart, attached := s.attached, harts := s.harts } =
      { s with schedule := s.schedule.tail } := by
  rcases s.switchHart_cases with ⟨hs, e⟩ | ⟨id, rest, hs, e⟩ <;> rw [e, hs]
  · rw [List.tail_nil, ← hs]
  · exact State.swapHart_frame { s with schedule := rest } id

theorem State.switchHart_cfg (s : State) : s.switchHart.cfg = s.cfg := (congrArg State.cfg s.switchHart_frame :)

theorem State.switchHart_mem (s : State) : s.switchHart.mem = s.mem := (congrArg State.mem s.switchHart_frame :)

theorem State.switchHart_allocated (s : State) : s.switchHart.allocated = s.allocated :=
  (congrArg State.allocated s.switchHart_frame :)

theorem State.switchHart_schedule (s : State) : s.switchHart.schedule = s.schedule.tail :=
  (congrArg State.schedule s.switchHart_frame :)

theorem State.switchHart_ok {s : State} (h : s.Ok) : s.switchHart.Ok where
  memory := s.switchHart_mem ▸ h.memory
  harts g hg := s.switchHart_cfg ▸ h.harts g (s.switchHart_allHarts.mem_iff.mp hg)
  ids := (s.switchHart_allHarts.map Hart.hartId).nodup_iff.mpr h.ids
  count := by
    rw [s.switchHart_allHarts.length_eq, s.switchHart_cfg]
    exact h.count

/-! ### The harts after a step -/

theorem State.mem_front_iff {s : State} {h : Hart} : h ∈ s.front ↔ s.attached = true ∧ h = s.toHart := by
  unfold State.front
  split <;> simp_all

/-- The identifiers are the same when the hart in front keeps its own and of the others at most reservations were opened. -/
theorem State.map_hartId_allHarts_eq {s t : State} (hatt : t.attached = s.attached) (hid : t.hartId = s.hartId)
    (hothers : OnlyReservationsOpened s.harts t.harts) : t.allHarts.map Hart.hartId = s.allHarts.map Hart.hartId := by
  unfold State.allHarts State.front
  rw [List.map_append, List.map_append, hothers.map_hartId_eq, hatt]
  split
  · rw [List.map_singleton, List.map_singleton, hid]
  · rfl

/-- The state is `Ok` again when the hart in front is and of the others at most reservations were opened. -/
theorem State.Ok.of_moved {s t : State} (h : s.Ok) (hmem : Memory.wf s.mem = true → Memory.wf t.mem = true)
    (hcfg : t.cfg = s.cfg) (hatt : t.attached = s.attached) (hid : t.hartId = s.hartId)
    (hhart : s.toHart.Ok s.cfg → t.toHart.Ok s.cfg) (hothers : OnlyReservationsOpened s.harts t.harts) : t.Ok := by
  have hids := State.map_hartId_allHarts_eq hatt hid hothers
  refine ⟨hmem h.memory, fun g hg => ?_, hids ▸ h.ids, ?_⟩
  · rw [hcfg]
    rcases List.mem_append.mp hg with hg | hg
    · obtain ⟨ha, rfl⟩ := State.mem_front_iff.mp hg
      exact hhart (h.harts _ (List.mem_append_left _ (State.mem_front_iff.mpr ⟨hatt ▸ ha, rfl⟩)))
    · exact hothers.ok (fun g hg => h.harts g (List.mem_append_right _ hg)) g hg
  · have e := congrArg List.length hids
    rw [List.length_map, List.length_map] at e
    rw [e, hcfg]
    exact h.count

/-- The end of an instruction leaves `pc` even. -/
theorem getLsbD_zero_retired {t : State} {len : Nat} (hlen : len = 2 ∨ len = 4) (h : t.pc.getLsbD 0 = false) :
    (if t.pcModified then t.pc else t.pc + BitVec.ofNat 64 len).getLsbD 0 = false := by
  split
  · exact h
  · rw [BitVec.getLsbD_add (by decide), h, BitVec.carry_zero]
    rcases hlen with rfl | rfl <;> rfl

theorem HartStep.ok {s t : State} (h : HartStep s (.next t)) (hs : s.Ok) : t.Ok := by
  cases h with
  | idle => exact hs
  | stops c info bps => exact hs.of_moved id rfl rfl rfl (fun ok => { ok with }) (.refl _)
  | halts m c info hm =>
    refine hs.of_moved id rfl rfl rfl (fun ok => { ok with pcClear := ?_ }) (.refl _)
    rcases hm with rfl | rfl
    · exact ok.pcClear
    · rfl
  | traps c info => exact hs.of_moved id rfl rfl rfl (fun ok => { ok with pcClear := rfl }) (.refl _)
  | completes u len hlen hrun h =>
    obtain ⟨hframe, hmem, hothers, hpc, hcount, hlinked⟩ := h
    refine hs.of_moved hmem (congrArg State.cfg hframe :) (congrArg State.attached hframe :)
      (congrArg (fun v => v.toHart.hartId) hframe :) (fun ok => ?_) hothers
    exact ⟨getLsbD_zero_retired hlen (hpc ok.pcEven), rfl, hcount ok.failCount, hlinked ok.reservation⟩

theorem step_hartStep (s : State) : HartStep s.switchHart (step s) := s.switchHart.stepHart_hartStep

/-- Settles O55: choosing the hart reorders the harts, and its step keeps what is `Ok`. -/
theorem stepKeepsOk : Obligations.StepKeepsOk := fun s _ hs e => (e ▸ step_hartStep s).ok (State.switchHart_ok hs)

/-- Settles O52: of the outcomes of a step only a fatal halt has a fatal cause. -/
theorem fatalHaltsArePrecise : Obligations.FatalHaltsArePrecise := by
  rintro s s₀ t c info rfl hrun e ht hc
  have h := e ▸ step_hartStep s₀
  cases h with
  | idle => cases hrun.symm.trans ht
  | stops c' info' bps _ hc' => cases ht; cases c <;> cases hc <;> cases hc'
  | halts m c' info' => rfl
  | traps c' info' _ hc' =>
    cases ht
    rw [Cause.environment_of_fatal hc] at hc'
    cases hc'
  | completes u len _ _ h =>
    have hu : u.run = s₀.switchHart.run := (congrArg (fun v => v.toHart.run) h.frame :)
    cases (hu.trans hrun).symm.trans ht

/-- Settles O53: an instruction that completes, or traps, is counted; no other outcome of a step is. -/
theorem countsCompletedInstructions : Obligations.CountsCompletedInstructions := by
  rintro s s₀ t rfl hrun hatt e
  have h := e ▸ step_hartStep s₀
  cases h with
  | idle h => exact absurd hrun (h.resolve_right (by simp [hatt]))
  | stops c info bps _ hc => cases c <;> cases hc <;> rfl
  | halts m c info _ _ hc => cases c <;> cases hc <;> rfl
  | traps c info _ hc => cases c <;> cases hc <;> rfl
  | completes u len _ _ h =>
    have hu : u.run = s₀.switchHart.run := (congrArg (fun v => v.toHart.run) h.frame :)
    simp only [hu, hrun]

/-! ### Isolation -/

/-- What a step leaves of the shared state, and of the other harts. -/
theorem HartStep.isolates {s t : State} (h : HartStep s (.next t)) :
    t.cfg = s.cfg ∧ t.allocated = s.allocated ∧ t.schedule = s.schedule ∧ t.attached = s.attached ∧
      t.hartId = s.hartId ∧ OnlyReservationsOpened s.harts t.harts := by
  cases h with
  | idle | stops | halts | traps => exact ⟨rfl, rfl, rfl, rfl, rfl, .refl _⟩
  | completes u len _ _ h =>
    exact ⟨(congrArg State.cfg h.frame :), (congrArg State.allocated h.frame :), (congrArg State.schedule h.frame :),
      (congrArg State.attached h.frame :), (congrArg (fun v => v.toHart.hartId) h.frame :), h.others⟩

theorem takeHart_eq_none {id : Nat} {l : List Hart} (h : ∀ g ∈ l, g.hartId ≠ id) : takeHart id l = none := by
  induction l with
  | nil => rfl
  | cons g l ih =>
    rw [List.forall_mem_cons] at h
    rw [takeHart, if_neg h.1, ih h.2]

theorem takeHart_append {id : Nat} {pre : List Hart} {h : Hart} {post : List Hart} (hpre : ∀ g ∈ pre, g.hartId ≠ id)
    (hid : h.hartId = id) : takeHart id (pre ++ h :: post) = some (h, pre ++ post) := by
  induction pre with
  | nil => rw [List.nil_append, takeHart, if_pos hid, List.nil_append]
  | cons g pre ih =>
    rw [List.forall_mem_cons] at hpre
    rw [List.cons_append, takeHart, if_neg hpre.1, ih hpre.2]
    rfl

theorem State.exists_not_allocated {s : State} {a : Word} {n : Nat} (h : s.backed a n = false) :
    ∃ i < n, ¬Allocated s (a + BitVec.ofNat 64 i) := by
  by_contra hall
  push Not at hall
  rw [(s.backed_iff a n).mpr hall] at h
  cases h

/-- Settles O54: the frame of a hart's step, after the frame of the switch. -/
theorem stepTouchesItsHartOnly : Obligations.StepTouchesItsHartOnly := by
  intro s
  refine ⟨fun t e => ?_, ?_, fun hs => ?_, fun id rest hs hid => ?_, fun id rest pre h post hs hne hharts hpre hid => ?_⟩
  · have h := e ▸ step_hartStep s
    obtain ⟨hcfg, hall, hsch, hatt, hid, hothers⟩ := h.isolates
    refine ⟨hcfg.trans s.switchHart_cfg, hall.trans s.switchHart_allocated, hsch.trans s.switchHart_schedule, ?_, hothers⟩
    rw [State.map_hartId_allHarts_eq hatt hid hothers]
    exact s.switchHart_allHarts.map _
  · have h := step_hartStep s
    generalize step s = r at h
    cases h
    case stuck a n hn hb =>
      obtain ⟨i, hi, hnot⟩ := State.exists_not_allocated hb
      refine .inr ⟨a, i, by omega, ?_, rfl⟩
      unfold Allocated at hnot ⊢
      rwa [s.switchHart_allocated] at hnot
    all_goals exact .inl ⟨_, rfl⟩
  · rw [State.switchHart, hs]
  · rw [State.switchHart, hs]
    show State.swapHart { s with schedule := rest } id = _
    unfold State.swapHart
    split
    · rfl
    · rw [takeHart_eq_none (hid.resolve_left ‹_›)]
  · rw [State.switchHart, hs]
    show State.swapHart { s with schedule := rest } id = _
    unfold State.swapHart
    rw [if_neg hne]
    show (match takeHart id s.harts with | some (h, rest') => _ | none => _) = _
    rw [hharts, takeHart_append hpre hid]
    rfl

end Sys2Proof.Machine
end

section
/-! PROOFS. The step, case by case: the stops between instructions, the fetch and its faults, the run of what was fetched. -/

namespace Sys2Proof.Machine

/-! ### The fetched bits -/

/-- The bits a fetch at `a` gives: four bytes when the first one announces a 32-bit instruction, else two. -/
def fetchedBits (s : State) (a : Word) : BitVec 32 :=
  if (byteAt s a 0).extractLsb' 0 2 = 0b11#2 then word s a else (half s a).setWidth 32

theorem State.parcel_eq (s : State) (a : Word) : s.parcel a = half s a := by
  simp [State.parcel, half, byteAt]

theorem half_append_half (s : State) (a : Word) : half s (a + 2) ++ half s a = word s a := by
  have h3 : byteAt s (a + 2) 1 = byteAt s a 3 := by simp [byteAt, BitVec.add_assoc]
  have h2 : byteAt s (a + 2) 0 = byteAt s a 2 := by simp [byteAt]
  refine BitVec.eq_of_getLsbD_eq fun i hi => ?_
  simp only [half, word, h3, h2, BitVec.getLsbD_append]
  grind only

theorem isCompressed_of_low2_eq {w : BitVec 32} {b : Byte} (h : ∀ i < 2, w.getLsbD i = b.getLsbD i) :
    isCompressed w = !decide (b.extractLsb' 0 2 = 0b11#2) := by
  have e : w.extractLsb' 0 2 = b.extractLsb' 0 2 := by
    refine BitVec.eq_of_getLsbD_eq fun i hi => ?_
    simp only [BitVec.getLsbD_extractLsb', Nat.zero_add, h i hi]
  rw [isCompressed, e]
  rfl

theorem isCompressed_half (s : State) (a : Word) :
    isCompressed ((half s a).setWidth 32) = !decide ((byteAt s a 0).extractLsb' 0 2 = 0b11#2) :=
  isCompressed_of_low2_eq fun i hi => by
    rw [BitVec.getLsbD_setWidth, half, BitVec.getLsbD_append, if_pos (by omega)]
    simp [show i < 32 by omega]

theorem isCompressed_word (s : State) (a : Word) :
    isCompressed (word s a) = !decide ((byteAt s a 0).extractLsb' 0 2 = 0b11#2) :=
  isCompressed_of_low2_eq fun i hi => by rw [word, BitVec.getLsbD_append, if_pos (by omega)]

theorem fetchedLength_fetchedBits (s : State) (a : Word) :
    fetchedLength (fetchedBits s a) = if (byteAt s a 0).extractLsb' 0 2 = 0b11#2 then 4 else 2 := by
  unfold fetchedLength fetchedBits
  split
  case isTrue h => rw [isCompressed_word, decide_eq_true h]; rfl
  case isFalse h => rw [isCompressed_half, decide_eq_false h]; rfl

theorem State.fetch_eq {s : State} (heven : s.pc.getLsbD 0 = false) (hnull : s.cfg.nullPageSize ≤ s.pc.toNat) :
    s.fetch = .ok (fetchedBits s s.pc) := by
  unfold State.fetch fetchedBits
  rw [heven, if_neg Bool.false_ne_true, if_neg (Nat.not_lt.mpr hnull)]
  simp only [State.parcel_eq, half_append_half, isCompressed_half]
  by_cases h : (byteAt s s.pc 0).extractLsb' 0 2 = 0b11#2 <;> simp [h]

/-- The decoder on the bytes at `a` reads the bits a fetch there gives. -/
theorem decodeInst_fetchedBits {s : State} {a : Word} {i : Instr} {rest : List Byte}
    (h : decode [byteAt s a 0, byteAt s a 1, byteAt s a 2, byteAt s a 3] = .ok (i, rest)) :
    decodeInst (fetchedBits s a) = .ok i := by
  have hc : isCompressed ((byteAt s a 1 ++ byteAt s a 0).setWidth 32) = _ := isCompressed_half s a
  simp only [decode, hc] at h
  unfold fetchedBits half word
  by_cases hlow : (byteAt s a 0).extractLsb' 0 2 = 0b11#2
  · simp only [hlow, decide_true, Bool.not_true, Bool.false_eq_true, if_false, if_true] at h ⊢
    split at h <;> cases h
    assumption
  · simp only [hlow, decide_false, Bool.not_false, if_false, if_true] at h ⊢
    split at h <;> cases h
    assumption

/-! ### The stops -/

theorem breakpointAt_eq_true_iff {pc : Word} {l : List BreakpointEntry} :
    breakpointAt pc l = true ↔ ∃ b ∈ l, b.addr = pc ∧ b.enabled = true := by
  induction l with
  | nil => simp [breakpointAt]
  | cons b l ih => simp [breakpointAt, ih]

theorem breakpointAt_eq_false {pc : Word} {l : List BreakpointEntry} (h : ∀ b ∈ l, ¬(b.addr = pc ∧ b.enabled = true)) :
    breakpointAt pc l = false := by
  rw [← Bool.not_eq_true, breakpointAt_eq_true_iff]
  exact fun ⟨b, hb, hh⟩ => h b hb hh

theorem breakpointsAfterHit_append {pc : Word} {pre : List BreakpointEntry} {b : BreakpointEntry}
    (post : List BreakpointEntry) (hpre : ∀ c ∈ pre, ¬(c.addr = pc ∧ c.enabled = true)) (hb : b.addr = pc)
    (hen : b.enabled = true) :
    breakpointsAfterHit pc (pre ++ b :: post) = pre ++ { b with enabled := !b.temporary } :: post := by
  induction pre with
  | nil =>
    rw [List.nil_append, breakpointsAfterHit, if_pos ⟨hb, hen⟩]
    obtain ⟨addr, enabled, temporary⟩ := b
    cases temporary
    · rw [show enabled = true from hen]; rfl
    · rfl
  | cons c pre ih =>
    rw [List.forall_mem_cons] at hpre
    rw [List.cons_append, breakpointsAfterHit, if_neg hpre.1, ih hpre.2]
    rfl

theorem State.stopCause_eq_none {s : State} (h : s.NoStop) : s.stopCause s.resumeSkip = none := by
  obtain ⟨-, -, hsentinel, hothers⟩ := h
  unfold State.stopCause
  rw [if_neg hsentinel]
  rcases hothers with hskip | ⟨hbp, hcount⟩
  · rw [if_pos hskip]
  · have hbp : breakpointAt s.pc s.breakpoints = false := breakpointAt_eq_false fun b hb ⟨ha, hen⟩ => hbp b hb hen ha
    rw [hbp, if_neg Bool.false_ne_true, if_neg hcount, ite_self]

/-! ### The step in each of its cases -/

section
variable {s : State} (hrun : s.run = .running) (hatt : s.attached = true)
include hrun hatt

theorem State.stepHart_of_stop {c : Cause} (h : s.stopCause s.resumeSkip = some c) :
    s.stepHart exec = .next (State.stopAt { s with resumeSkip := false } c) := by
  rcases s.stepHart_cases exec with ⟨h', -⟩ | ⟨-, -, ⟨c', hc, e⟩ | ⟨hc, -⟩ | ⟨hc, -⟩⟩
  · simp [hrun, hatt] at h'
  · cases h.symm.trans hc
    exact e
  · cases h.symm.trans hc
  · cases h.symm.trans hc

theorem State.stepHart_of_fetch_error {c : Cause} (h : s.stopCause s.resumeSkip = none) (hf : s.fetch = .error c) :
    s.stepHart exec = .next (State.halt { s with resumeSkip := false } c s.pc) := by
  rcases s.stepHart_cases exec with ⟨h', -⟩ | ⟨-, -, ⟨c', hc, -⟩ | ⟨-, c', hf', e⟩ | ⟨-, w, hf', -⟩⟩
  · simp [hrun, hatt] at h'
  · cases h.symm.trans hc
  · cases hf.symm.trans hf'
    exact e
  · cases hf.symm.trans hf'

theorem State.stepHart_of_fetch {w : BitVec 32} (h : s.stopCause s.resumeSkip = none) (hf : s.fetch = .ok w) :
    s.stepHart exec =
      if s.backed s.pc (fetchedLength w) then State.runWord exec { s with resumeSkip := false } w
      else .fault (.unallocated s.pc) := by
  rcases s.stepHart_cases exec with ⟨h', -⟩ | ⟨-, -, ⟨c', hc, -⟩ | ⟨-, c', hf', -⟩ | ⟨-, w', hf', ⟨hb, e⟩ | ⟨hb, e⟩⟩⟩
  · simp [hrun, hatt] at h'
  · cases h.symm.trans hc
  · cases hf.symm.trans hf'
  · cases hf.symm.trans hf'
    rw [e, if_pos hb]
  · cases hf.symm.trans hf'
    rw [e, hb, if_neg Bool.false_ne_true]

end

/-- A step that reaches its fetch runs what it fetched, if it is all in the allocated set. -/
theorem State.Fetches.stepHart_eq {s : State} (h : s.Fetches) :
    s.stepHart exec =
      if s.backed s.pc (fetchedLength (fetchedBits s s.pc)) then
        State.runWord exec { s with resumeSkip := false } (fetchedBits s s.pc)
      else .fault (.unallocated s.pc) :=
  State.stepHart_of_fetch h.running h.attached (State.stopCause_eq_none h.toNoStop) (State.fetch_eq h.even h.notNull)

theorem State.runWord_of_instr (s : State) {w : BitVec 32} {i : Instr} (h : decodeInst w = .ok i) :
    s.runWord exec w = retireResult i.len (exec i { s with pcModified := false }) := by
  simp only [State.runWord, h]

/-- A word that is no instruction halts, a vector-form one when there is no vector unit. -/
theorem State.runWord_of_reject (s : State) {w : BitVec 32} {e : Reject} (h : decodeInst w = .error e)
    (he : e ≠ .vectorForm ∨ s.cfg.hasVectorUnit = false) :
    s.runWord exec w = .next (State.halt { s with pcModified := false } .unimplementedInstruction (zext w)) := by
  cases e with
  | vectorForm =>
    have hv : s.cfg.hasVectorUnit = false := he.resolve_left (by simp)
    simp only [State.runWord, h, vectorWord, hv]
    rfl
  | truncated | unclassifiable => simp only [State.runWord, h]

/-! ### The obligations -/

/-- Settles O49: the fetched bits are the ones the decoder read, and they are all allocated. -/
theorem stepRunsDecodedInstruction : Obligations.StepRunsDecodedInstruction := by
  refine ⟨?_, fun t n h => ?_, fun t n c info h => ?_, fun _ _ => rfl⟩
  · rintro s s₀ i rest rfl hf hall hdec
    have hi := decodeInst_fetchedBits hdec
    have hlen : i.len = fetchedLength (fetchedBits s₀.switchHart s₀.switchHart.pc) := by
      rw [(decodedWordIsEncoding _ i hi).2.2, fetchedLength, isCompressed]
      split <;> simp_all
    rw [hlen] at hall
    show s₀.switchHart.stepHart exec = _
    rw [hf.stepHart_eq, if_pos ((State.backed_iff ..).mpr hall), State.runWord_of_instr _ hi]
  · simp only [retireResult, State.retire, h]
  · rw [retireResult, State.retire, h]
    cases c <;> rfl

/-- Settles O50: the first stop that applies decides. -/
theorem stopsBetweenInstructions : Obligations.StopsBetweenInstructions := by
  rintro s s₀ rfl
  refine ⟨fun c info h => ?_, fun h => ?_, fun hrun hatt hpc => ?_, fun hrun hatt hpc hskip pre b post hbps hpre hb hen => ?_,
    fun hrun hatt hpc hskip hbps hcount => ?_⟩
  all_goals show s₀.switchHart.stepHart exec = _
  · simp only [State.stepHart, h]
  · cases hrun : s₀.switchHart.run <;> simp only [State.stepHart, h, hrun]
  · rw [State.stepHart_of_stop hrun hatt (if_pos hpc)]
    rfl
  · have hat : breakpointAt s₀.switchHart.pc s₀.switchHart.breakpoints = true :=
      breakpointAt_eq_true_iff.mpr ⟨b, by simp [hbps], hb, hen⟩
    rw [State.stepHart_of_stop (c := .breakpointHit) hrun hatt (by simp [State.stopCause, hpc, hskip, hat])]
    show Host.Outcome.next (State.halt { s₀.switchHart with
      resumeSkip := false
      breakpoints := breakpointsAfterHit s₀.switchHart.pc s₀.switchHart.breakpoints } .breakpointHit s₀.switchHart.pc) = _
    rw [hbps, breakpointsAfterHit_append post hpre hb hen, ← hskip]
    rfl
  · have hat := breakpointAt_eq_false hbps
    rw [State.stepHart_of_stop (c := .icountStop) hrun hatt (by simp [State.stopCause, hpc, hskip, hat, hcount])]
    show Host.Outcome.next (State.halt { s₀.switchHart with resumeSkip := false } .icountStop s₀.switchHart.icount) = _
    rw [← hskip]
    rfl

/-- Settles O51: the checks of the fetch in their order, then the decoder's answer. -/
theorem fetchAndDecodeFaults : Obligations.FetchAndDecodeFaults := by
  rintro s s₀ rfl hns
  have hstop := State.stopCause_eq_none hns
  refine ⟨fun hodd => ?_, fun heven hnull => ?_, fun hf => ?_⟩
  · exact State.stepHart_of_fetch_error hns.running hns.attached hstop (by rw [State.fetch, if_pos hodd])
  · exact State.stepHart_of_fetch_error hns.running hns.attached hstop (by rw [State.fetch, heven,
      if_neg Bool.false_ne_true, if_pos hnull])
  · have hstep := hf.stepHart_eq
    rw [fetchedLength_fetchedBits] at hstep
    refine ⟨fun hall => ?_, fun hall e he hv => ?_⟩
    · exact hstep.trans (if_neg fun hb => hall ((State.backed_iff ..).mp hb))
    · refine hstep.trans ((if_pos ((State.backed_iff ..).mpr hall)).trans ?_)
      exact State.runWord_of_reject _ he hv

end Sys2Proof.Machine
end

section
/-! PROOFS. Loads and stores: the value of a load as the bytes it reads, the frames of the accesses that pass their checks. -/

namespace Sys2Proof.Machine

/-! ### The value of a load -/

theorem zext_append_byte {w : Nat} (x : BitVec w) (b : Byte) : zext (x ++ b) = zext x <<< 8 ||| zext b := by
  refine BitVec.eq_of_getLsbD_eq fun i hi => ?_
  simp only [zext, BitVec.getLsbD_setWidth, BitVec.getLsbD_append, BitVec.getLsbD_or, BitVec.getLsbD_shiftLeft, hi,
    decide_true, Bool.true_and]
  by_cases h : i < 8
  · simp [h]
  · simp [h, BitVec.getLsbD_of_ge b i (by omega), show i - 8 < 64 by omega]

theorem State.load_byte (s : State) (a : Word) : s.load a 1 = zext (byteAt s a 0) := by
  simp [State.load, Memory.readLE, byteAt]

theorem State.load_half (s : State) (a : Word) : s.load a 2 = zext (half s a) := by
  rw [half, zext_append_byte]
  simp [State.load, Memory.readLE, byteAt]

theorem State.load_word (s : State) (a : Word) : s.load a 4 = zext (word s a) := by
  rw [word, zext_append_byte, zext_append_byte, zext_append_byte]
  simp [State.load, Memory.readLE, byteAt, BitVec.add_assoc]

theorem State.load_doubleword (s : State) (a : Word) : s.load a 8 = doubleword s a := by
  rw [show doubleword s a = zext (doubleword s a) from (BitVec.setWidth_eq _).symm, doubleword]
  iterate 7 rw [zext_append_byte]
  simp [State.load, Memory.readLE, byteAt, BitVec.add_assoc]

theorem setWidth_zext {w : Nat} (v : BitVec w) (hw : w ≤ 64) : (zext v).setWidth w = v :=
  BitVec.setWidth_setWidth_of_le v hw |>.trans (BitVec.setWidth_eq v)

theorem lo32_load_word (s : State) (a : Word) : lo32 (s.load a 4) = word s a := by
  rw [s.load_word, lo32, setWidth_zext _ (by decide)]

/-! ### Accesses that pass their checks -/

theorem OrdinaryOk.access_eq {s : State} {a : Word} {n : Nat} (h : OrdinaryOk s a n) (effect : State → State) :
    access false a n effect s = .next (effect s) :=
  access_of_none effect ((s.accessCheck_eq_none_iff_passes false a n).mpr h.1) ((s.backed_iff a n).mpr h.2)

theorem AtomicOk.access_eq {s : State} {a : Word} {n : Nat} (h : AtomicOk s a n) (effect : State → State) :
    access true a n effect s = .next (effect s) :=
  access_of_none effect ((s.accessCheck_eq_none_iff_passes true a n).mpr h.1) ((s.backed_iff a n).mpr h.2)

theorem OrdinaryOk.loadX {s : State} {a : Word} {n : Nat} (h : OrdinaryOk s a n) (ext : Word → Word) (rd : Reg) {v : Word}
    (hv : ext (s.load a n) = v) : LoadsX (loadX n ext rd a s) s rd v :=
  ⟨_, h.access_eq _, fun r => hv ▸ State.readX_writeX s.notifyLoad rd r _, rfl, rfl⟩

theorem OrdinaryOk.loadF {s : State} {a : Word} {n : Nat} (h : OrdinaryOk s a n) (ext : Word → Word) (rd : Reg) {v : Word}
    (hv : ext (s.load a n) = v) : LoadsF (loadF n ext rd a s) s rd v :=
  ⟨_, h.access_eq _, fun r => hv ▸ State.readF_writeF s.notifyLoad rd r _, rfl, rfl⟩

/-- Notifying a hart is opening a reservation on a granule that was touched. -/
theorem Hart.afterStore_eq (cfg : Config) (a : Word) (n : Nat) (h : Hart) :
    h.afterStore cfg a n =
      if h.gm.state = .rmw ∧
          (granule cfg h.gm.addr = granule cfg a ∨ granule cfg h.gm.addr = granule cfg (a + BitVec.ofNat 64 n - 1)) then
        { h with gm := { h.gm with state := .open } }
      else h := by
  unfold Hart.afterStore GmRecord.afterStore touches
  simp only [Bool.or_eq_true, beq_iff_eq]
  split <;> rfl

theorem othersNotified_afterStore {s t : State} {a : Word} {n : Nat} (h : t.harts = s.harts.map (Hart.afterStore s.cfg a n)) :
    OthersNotified s t a n :=
  h.trans (List.map_congr_left fun g _ => g.afterStore_eq s.cfg a n)

theorem bytesStored_writeLE (m : Memory) (a : Word) (n : Nat) (v : Word) (hn : n ≤ 8) :
    BytesStored m (Memory.writeLE m a n v) a n v :=
  fun b => Memory.read_writeLE m a b n v hn

theorem OrdinaryOk.storeV {s : State} {a : Word} {n : Nat} (h : OrdinaryOk s a n) (hn : n ≤ 8) (v : Word) :
    StoresAt (storeV n a v s) s a n v :=
  ⟨_, h.access_eq _, bytesStored_writeLE s.mem a n v hn, rfl, othersNotified_afterStore rfl, rfl⟩

/-! ### The obligations about loads and stores -/

/-- Settles O13: each load is the shared shape with its extension. -/
theorem loadInstructions : Obligations.LoadInstructions := by
  intro s rd rs1 imm a
  refine ⟨fun h => ⟨?_, h.loadX id rd (s.load_byte a)⟩, fun h => ⟨?_, h.loadX id rd (s.load_half a)⟩,
    fun h => ⟨?_, h.loadX id rd (s.load_word a), ?_⟩,
    fun h => ⟨h.loadX id rd (s.load_doubleword a), h.loadF id rd (s.load_doubleword a)⟩⟩
  · exact h.loadX (fun v => sext (v.setWidth 8)) rd (by rw [s.load_byte, setWidth_zext _ (by decide)])
  · exact h.loadX (fun v => sext (v.setWidth 16)) rd (by rw [s.load_half, setWidth_zext _ (by decide)])
  · exact h.loadX (fun v => sext (lo32 v)) rd (by rw [lo32_load_word])
  · exact h.loadF (fun v => box32 (lo32 v)) rd (by rw [lo32_load_word, box32])

/-- The low `n` bits cleared. -/
theorem toNat_clearLow (a : Word) (n : Nat) : (a >>> n <<< n).toNat = a.toNat / 2 ^ n * 2 ^ n := by
  rw [BitVec.toNat_shiftLeft, BitVec.toNat_ushiftRight, Nat.shiftLeft_eq, Nat.shiftRight_eq_div_pow]
  exact Nat.mod_eq_of_lt ((Nat.div_mul_le_self _ _).trans_lt a.isLt)

theorem toNat_granule {cfg : Config} {k : Nat} (h : cfg.reservationGranule = 2 ^ k) (a : Word) :
    (granule cfg a).toNat = a.toNat / 2 ^ k * 2 ^ k := by
  rw [granule, h, Nat.log2_two_pow, toNat_clearLow]

/-- Settles O14: each store is the shared shape. -/
theorem storeInstructions : Obligations.StoreInstructions := by
  refine ⟨fun cfg a k h => toNat_granule h a, fun s r d => BitVec.toNat_add .., fun s rs2 rs1 imm => ?_⟩
  exact ⟨fun h => h.storeV (by decide) _, fun h => h.storeV (by decide) _,
    fun h => ⟨h.storeV (by decide) _, h.storeV (by decide) _⟩, fun h => ⟨h.storeV (by decide) _, h.storeV (by decide) _⟩⟩

/-- Settles O35: the compressed loads and stores have the shapes of the others. -/
theorem compressedAccesses : Obligations.CompressedAccesses := by
  intro s rd rs2 c d u7 u8 u9
  refine ⟨?_, ?_, ?_, ?_⟩ <;> rintro a rfl h
  · exact ⟨h.loadX (fun v => sext (lo32 v)) _ (by rw [lo32_load_word]), h.storeV (by decide) _⟩
  · exact ⟨h.loadX id _ (s.load_doubleword _), h.loadF id _ (s.load_doubleword _), h.storeV (by decide) _,
      h.storeV (by decide) _⟩
  · exact ⟨h.loadX (fun v => sext (lo32 v)) _ (by rw [lo32_load_word]), h.storeV (by decide) _⟩
  · exact ⟨h.loadX id _ (s.load_doubleword _), h.loadF id _ (s.load_doubleword _), h.storeV (by decide) _,
      h.storeV (by decide) _⟩

/-- Settles O17: bit by bit, a byte of the read is a byte of the write. -/
theorem mixedWidthReads : Obligations.MixedWidthReads := by
  intro m a v k n hkn
  refine BitVec.eq_of_getLsbD_eq fun i hi => ?_
  have haddr : a + BitVec.ofNat 64 k + BitVec.ofNat 64 (i / 8) - a = BitVec.ofNat 64 (k + i / 8) := by
    rw [BitVec.add_assoc, ← BitVec.ofNat_add, BitVec.add_comm, BitVec.add_sub_cancel]
  rw [Memory.getLsbD_readLE _ _ _ _ (by omega), Memory.read_writeLE _ _ _ _ _ le_rfl, haddr, BitVec.getLsbD_ofNat,
    Nat.testBit_mod_two_pow, Nat.testBit_div_two_pow, BitVec.testBit_toNat, BitVec.toNat_ofNat]
  by_cases hin : i < 8 * n
  · have hlt : (k + i / 8) % 2 ^ 64 = k + i / 8 := by omega
    have hbit : 8 * (k + i / 8) + i % 8 = i + 8 * k := by omega
    rw [hlt, if_pos (by omega), BitVec.getLsbD_setWidth, BitVec.getLsbD_ushiftRight, hbit]
    simp [hi, Nat.mod_lt]
  · simp [hin]

end Sys2Proof.Machine
end

section
/-! PROOFS. The atomics: load-linked, store-conditional, AMOs, when their access passes its checks. -/

namespace Sys2Proof.Machine

/-! ### Load-linked -/

theorem AtomicOk.loadLinked {s : State} {rs1 : Reg} {n : Nat} (h : AtomicOk s (s.readX rs1) n) (size : MonitorSize)
    (ext : Word → Word) (rd : Reg) {v : Word} (hv : ext (s.load (s.readX rs1) n) = v) :
    LinksAt (loadLinked n size ext rd rs1 s) s rd v (s.readX rs1) size :=
  ⟨_, h.access_eq _, fun r => hv ▸ State.readX_writeX s.notifyLoad rd r _, rfl, rfl, rfl⟩

/-- Settles O21: both are the shared shape with their extension. -/
theorem loadLinkedInstructions : Obligations.LoadLinkedInstructions := by
  intro s rd rs1 aq rl
  refine ⟨fun h => ?_, fun h => h.loadLinked .doubleword id rd (s.load_doubleword _)⟩
  exact h.loadLinked .word (fun v => sext (lo32 v)) rd (by rw [lo32_load_word])

/-! ### AMOs -/

theorem AtomicOk.amoWord {s : State} {rs1 : Reg} (h : AtomicOk s (s.readX rs1) 4) (op : BitVec 32 → BitVec 32 → BitVec 32)
    (rd rs2 : Reg) {new : Word} (hnew : zext (op (word s (s.readX rs1)) (lo32 (s.readX rs2))) = new) :
    SwapsAt (amoWord op rd rs2 rs1 s) s rd (sext (word s (s.readX rs1))) (s.readX rs1) 4 new := by
  subst hnew
  rw [← lo32_load_word]
  exact ⟨_, h.access_eq _, fun r => State.readX_writeX (s.notifyLoad.store (s.readX rs1) 4 _) rd r _,
    bytesStored_writeLE s.mem _ 4 _ (by decide), rfl, othersNotified_afterStore rfl, rfl⟩

theorem AtomicOk.amoDouble {s : State} {rs1 : Reg} (h : AtomicOk s (s.readX rs1) 8) (op : Word → Word → Word)
    (rd rs2 : Reg) {new : Word} (hnew : op (doubleword s (s.readX rs1)) (s.readX rs2) = new) :
    SwapsAt (amoDouble op rd rs2 rs1 s) s rd (doubleword s (s.readX rs1)) (s.readX rs1) 8 new := by
  subst hnew
  rw [← State.load_doubleword]
  exact ⟨_, h.access_eq _, fun r => State.readX_writeX (s.notifyLoad.store (s.readX rs1) 8 _) rd r _,
    bytesStored_writeLE s.mem _ 8 _ le_rfl, rfl, othersNotified_afterStore rfl, rfl⟩

theorem ite_slt_eq {w : Nat} {α : Type} (t v : BitVec w) (x y : α) :
    (if t.slt v = true then x else y) = if t.toInt < v.toInt then x else y := by
  simp only [BitVec.slt_iff_toInt_lt]

theorem ite_ult_eq {w : Nat} {α : Type} (t v : BitVec w) (x y : α) :
    (if t.ult v = true then x else y) = if t.toNat < v.toNat then x else y := by
  simp only [BitVec.ult_iff_toNat_lt]

theorem zext_add_word (t v : BitVec 32) : zext (t + v) = BitVec.ofNat 64 ((t.toNat + v.toNat) % 2 ^ 32) := by
  refine BitVec.eq_of_toNat_eq ?_
  rw [zext, BitVec.toNat_setWidth, BitVec.toNat_ofNat, BitVec.toNat_add]

/-- Settles O23: each is the shared shape with its operation. -/
theorem amoWordInstructions : Obligations.AmoWordInstructions := by
  intro s rd rs2 rs1 aq rl a t v h
  refine ⟨h.amoWord (fun _ v => v) rd rs2 rfl, h.amoWord (fun t v => t + v) rd rs2 (zext_add_word t v),
    h.amoWord (fun t v => t ^^^ v) rd rs2 rfl, h.amoWord (fun t v => t &&& v) rd rs2 rfl,
    h.amoWord (fun t v => t ||| v) rd rs2 rfl, ?_, ?_, ?_, ?_⟩
  · exact h.amoWord (fun t v => if t.slt v then t else v) rd rs2 (congrArg zext (ite_slt_eq t v t v))
  · exact h.amoWord (fun t v => if v.slt t then t else v) rd rs2 (congrArg zext (ite_slt_eq v t t v))
  · exact h.amoWord (fun t v => if t.ult v then t else v) rd rs2 (congrArg zext (ite_ult_eq t v t v))
  · exact h.amoWord (fun t v => if v.ult t then t else v) rd rs2 (congrArg zext (ite_ult_eq v t t v))

/-- Settles O24: each is the shared shape with its operation. -/
theorem amoDoublewordInstructions : Obligations.AmoDoublewordInstructions := by
  intro s rd rs2 rs1 aq rl a t v h
  refine ⟨h.amoDouble (fun _ v => v) rd rs2 rfl, h.amoDouble (fun t v => t + v) rd rs2 ?_,
    h.amoDouble (fun t v => t ^^^ v) rd rs2 rfl, h.amoDouble (fun t v => t &&& v) rd rs2 rfl,
    h.amoDouble (fun t v => t ||| v) rd rs2 rfl, ?_, ?_, ?_, ?_⟩
  · exact BitVec.eq_of_toNat_eq (by rw [BitVec.toNat_add, BitVec.toNat_ofNat, Nat.mod_mod])
  · exact h.amoDouble (fun t v => if t.slt v then t else v) rd rs2 (ite_slt_eq t v t v)
  · exact h.amoDouble (fun t v => if v.slt t then t else v) rd rs2 (ite_slt_eq v t t v)
  · exact h.amoDouble (fun t v => if t.ult v then t else v) rd rs2 (ite_ult_eq t v t v)
  · exact h.amoDouble (fun t v => if v.ult t then t else v) rd rs2 (ite_ult_eq v t t v)

/-! ### Store-conditional -/

/-- The byte a store-conditional notifies first lies on a granule its store touches. -/
theorem touches_one {cfg : Config} {a b : Word} (n : Nat) (h : touches cfg a 1 b = true) : touches cfg a n b = true := by
  have e : a + BitVec.ofNat 64 1 - 1 = a := BitVec.add_sub_cancel a 1
  simp only [touches, e, Bool.or_self] at h
  rw [touches, h, Bool.true_or]

theorem GmRecord.afterStore_afterStore_one (cfg : Config) (a : Word) (n : Nat) (g : GmRecord) :
    (g.afterStore cfg a 1).afterStore cfg a n = g.afterStore cfg a n := by
  by_cases h : g.state = .rmw ∧ touches cfg a 1 g.addr = true
  · have hn : g.state = .rmw ∧ touches cfg a n g.addr = true := ⟨h.1, touches_one n h.2⟩
    simp [GmRecord.afterStore, h, hn]
  · rw [show g.afterStore cfg a 1 = g from if_neg h]

theorem map_afterStore_map_afterStore_one (cfg : Config) (a : Word) (n : Nat) (l : List Hart) :
    (l.map (Hart.afterStore cfg a 1)).map (Hart.afterStore cfg a n) = l.map (Hart.afterStore cfg a n) := by
  rw [List.map_map]
  refine List.map_congr_left fun h _ => ?_
  simp only [Function.comp_apply, Hart.afterStore, GmRecord.afterStore_afterStore_one]

section
variable {s : State} {rs1 : Reg} {n : Nat} {size : MonitorSize} (h : AtomicPasses s (s.readX rs1) n) (rd rs2 : Reg)
include h

/-- A store-conditional whose access passes its checks. -/
theorem AtomicPasses.storeConditional_eq :
    storeConditional n size rd rs2 rs1 s =
      let a := s.readX rs1
      if s.localMatch a size then
        if s.globalOk a then
          onBacked a n (fun t => ((t.globalStoreConditional a).store a n (s.readX rs2)).writeX rd 0) s.notifyStoreConditional
        else .next ((s.notifyStoreConditional.globalStoreConditional a).writeX rd 1)
      else .next (s.notifyStoreConditional.writeX rd 1) := by
  have hc := (s.accessCheck_eq_none_iff_passes true (s.readX rs1) n).mpr h
  unfold storeConditional
  simp only [checked, hc]

theorem AtomicPasses.conditionallyFails_of_local (hlm : s.lm ≠ .rmw (s.readX rs1) size) :
    ConditionallyFails (storeConditional n size rd rs2 rs1 s) s rd s.gm := by
  have hmatch : s.localMatch (s.readX rs1) size = false := decide_eq_false hlm
  rw [h.storeConditional_eq]
  dsimp only
  rw [hmatch, if_neg Bool.false_ne_true]
  exact ⟨_, rfl, fun r => State.readX_writeX s.notifyStoreConditional rd r 1, rfl, rfl, rfl⟩

variable (hlm : s.lm = .rmw (s.readX rs1) size)
include hlm

/-- With a matching Local Monitor, what the Global Monitor answers decides. -/
theorem AtomicPasses.storeConditional_of_match :
    storeConditional n size rd rs2 rs1 s =
      if s.globalOk (s.readX rs1) then
        onBacked (s.readX rs1) n
          (fun t => ((t.globalStoreConditional (s.readX rs1)).store (s.readX rs1) n (s.readX rs2)).writeX rd 0)
          s.notifyStoreConditional
      else .next ((s.notifyStoreConditional.globalStoreConditional (s.readX rs1)).writeX rd 1) := by
  have hmatch : s.localMatch (s.readX rs1) size = true := decide_eq_true hlm
  rw [h.storeConditional_eq]
  dsimp only
  rw [hmatch, if_pos rfl]

theorem AtomicPasses.conditionallyFails_of_global (hg : s.gm.state ≠ .rmw ∨ s.gm.addr ≠ s.readX rs1) :
    ConditionallyFails (storeConditional n size rd rs2 rs1 s) s rd s.gm := by
  have hg : ¬(s.gm.state = .rmw ∧ s.gm.addr = s.readX rs1) := not_and_or.mpr hg
  rcases s.notifyStoreConditional.globalStoreConditional_cases (s.readX rs1) with
    ⟨-, hok, e⟩ | ⟨h1, h2, -⟩ | ⟨h1, h2, -⟩
  · replace hok : s.globalOk (s.readX rs1) = false := hok
    rw [h.storeConditional_of_match rd rs2 hlm, hok, if_neg Bool.false_ne_true, e]
    exact ⟨_, rfl, fun r => State.readX_writeX s.notifyStoreConditional rd r 1, rfl, rfl, rfl⟩
  · exact absurd ⟨h1, h2⟩ hg
  · exact absurd ⟨h1, h2⟩ hg

variable (hstate : s.gm.state = .rmw) (haddr : s.gm.addr = s.readX rs1)
include hstate haddr

theorem AtomicPasses.conditionallyFails_of_count (hcount : s.cfg.scForcedFailPeriod ≤ s.gm.failCount) :
    ConditionallyFails (storeConditional n size rd rs2 rs1 s) s rd { state := .open, addr := s.gm.addr, failCount := 0 } := by
  rcases s.notifyStoreConditional.globalStoreConditional_cases (s.readX rs1) with
    ⟨hg, -⟩ | ⟨-, -, -, hok, e⟩ | ⟨-, -, hlt, -⟩
  · exact absurd ⟨hstate, haddr⟩ hg
  · replace hok : s.globalOk (s.readX rs1) = false := hok
    rw [h.storeConditional_of_match rd rs2 hlm, hok, if_neg Bool.false_ne_true, e]
    exact ⟨_, rfl, fun r => State.readX_writeX { s with lm := .open, gm := _ } rd r 1, rfl, rfl, rfl⟩
  · exact absurd hlt (Nat.not_lt.mpr hcount)

variable (hcount : s.gm.failCount < s.cfg.scForcedFailPeriod)
include hcount

theorem AtomicPasses.storeConditional_of_ok :
    storeConditional n size rd rs2 rs1 s =
      onBacked (s.readX rs1) n
        (fun t => ((t.globalStoreConditional (s.readX rs1)).store (s.readX rs1) n (s.readX rs2)).writeX rd 0)
        s.notifyStoreConditional := by
  have hok : s.globalOk (s.readX rs1) = true := by simp [State.globalOk, hstate, haddr, hcount]
  rw [h.storeConditional_of_match rd rs2 hlm, hok, if_pos rfl]

theorem AtomicPasses.conditionallyStores (hn : n ≤ 8) (hall : AllocatedAll s (s.readX rs1) n) :
    ConditionallyStores (storeConditional n size rd rs2 rs1 s) s rd (s.readX rs1) n (s.readX rs2) := by
  have hb : s.notifyStoreConditional.backed (s.readX rs1) n = true := (s.backed_iff _ n).mpr hall
  rw [h.storeConditional_of_ok rd rs2 hlm hstate haddr hcount, onBacked, if_pos hb]
  rcases s.notifyStoreConditional.globalStoreConditional_cases (s.readX rs1) with
    ⟨hg, -⟩ | ⟨-, -, hle, -⟩ | ⟨-, -, -, -, e⟩
  · exact absurd ⟨hstate, haddr⟩ hg
  · exact absurd hcount (Nat.not_lt.mpr hle)
  · rw [e]
    exact ⟨_, rfl, fun r => State.readX_writeX (State.store _ _ n _) rd r 0, bytesStored_writeLE s.mem _ n _ hn, rfl,
      othersNotified_afterStore (map_afterStore_map_afterStore_one ..), rfl, rfl⟩

theorem AtomicPasses.storeConditional_of_not_allocated (hall : ¬AllocatedAll s (s.readX rs1) n) :
    storeConditional n size rd rs2 rs1 s = .fault (.unallocated (s.readX rs1)) := by
  rw [h.storeConditional_of_ok rd rs2 hlm hstate haddr hcount]
  exact if_neg fun hb => hall ((s.backed_iff _ n).mp hb)

end

/-- Settles O22: the Local Monitor decides, then the Global Monitor's record, then its count. -/
theorem storeConditionalInstructions : Obligations.StoreConditionalInstructions := by
  intro s rd rs2 rs1 aq rl a
  simp only [List.forall_mem_cons, List.not_mem_nil, IsEmpty.forall_iff, implies_true, and_true]
  constructor <;> intro h <;>
    exact ⟨fun hlm hs ha hc => ⟨h.conditionallyStores rd rs2 hlm hs ha hc (by decide),
        h.storeConditional_of_not_allocated rd rs2 hlm hs ha hc⟩,
      fun hlm hs ha hc => h.conditionallyFails_of_count rd rs2 hlm hs ha hc,
      fun hlm hg => h.conditionallyFails_of_global rd rs2 hlm hg, fun hlm => h.conditionallyFails_of_local rd rs2 hlm⟩

/-! ### A load-linked and two store-conditionals -/

theorem AtomicPasses.of_cfg_eq {s t : State} (hcfg : t.cfg = s.cfg) {a : Word} {n : Nat} (h : AtomicPasses s a n) :
    AtomicPasses t a n := ⟨hcfg ▸ h.1, h.2⟩

theorem AllocatedAll.of_allocated_eq {s t : State} (hall : t.allocated = s.allocated) {a : Word} {n : Nat}
    (h : AllocatedAll s a n) : AllocatedAll t a n := by
  unfold AllocatedAll Allocated at h ⊢
  rwa [hall]

/-- A register other than the one written reads as before. -/
theorem readX_eq_of_ne {s t : State} {rd rs : Reg} {v : Word}
    (h : ∀ r, t.readX r = if r = 0 then 0 else if r = rd then v else s.readX r) (hne : rd ≠ rs) : t.readX rs = s.readX rs := by
  rw [h rs, if_neg hne.symm]
  split
  · subst_vars; rfl
  · rfl

/-- Settles O25: the load-linked sets both monitors, the first store-conditional opens the local one. -/
theorem storeConditionalSucceedsOnce : Obligations.StoreConditionalSucceedsOnce := by
  intro s rd rd1 rd2 rs2 rs1 aq rl h hcount hrd hrd1 hne1 hne2
  obtain ⟨t, ht, htx, htlm, htgm, htframe⟩ := (loadLinkedInstructions s rd rs1 aq rl).1 h
  have hta : t.readX rs1 = s.readX rs1 := readX_eq_of_ne htx hrd
  have htcfg : t.cfg = s.cfg := (congrArg State.cfg htframe :)
  have htpass : AtomicPasses t (t.readX rs1) 4 := hta ▸ h.1.of_cfg_eq htcfg
  have htall : AllocatedAll t (t.readX rs1) 4 := hta ▸ h.2.of_allocated_eq (congrArg State.allocated htframe :)
  obtain ⟨u, hu, hux, -, hulm, -, -, huframe⟩ := htpass.conditionallyStores rd1 rs2 (hta ▸ htlm) (by rw [htgm])
    (by rw [htgm, hta]) (by rw [htgm, htcfg]; exact hcount) (by decide) htall
  have hua : u.readX rs1 = t.readX rs1 := readX_eq_of_ne hux hrd1
  have hupass : AtomicPasses u (u.readX rs1) 4 := hua ▸ htpass.of_cfg_eq (congrArg State.cfg huframe :)
  obtain ⟨v, hv, hvx, -, -, hvframe⟩ := hupass.conditionallyFails_of_local (size := .word) rd2 rs2 (by simp [hulm])
  exact ⟨t, u, v, ht, hu, by rw [hux, if_neg hne1, if_pos rfl], hv, by rw [hvx, if_neg hne2, if_pos rfl],
    (congrArg State.mem hvframe :)⟩

end Sys2Proof.Machine
end

section
/-! PROOFS. The vector-unit port: the vector form, the accesses of the unit, what its answer changes. -/

namespace Sys2Proof

/-! ### The vector form -/

theorem isVectorForm_iff (w : BitVec 32) :
    isVectorForm w = true ↔
      fieldOpcode w = 0b1010111#7 ∨
        (fieldOpcode w = 0b0000111#7 ∨ fieldOpcode w = 0b0100111#7) ∧
          (fieldFunct3 w = 0#3 ∨ fieldFunct3 w = 5#3 ∨ fieldFunct3 w = 6#3 ∨ fieldFunct3 w = 7#3) := by
  unfold isVectorForm
  generalize fieldOpcode w = op
  generalize fieldFunct3 w = funct3
  revert op funct3
  decide

theorem decode32_of_vectorForm {w : BitVec 32} (h : isVectorForm w = true) : decode32 w = none := by
  rcases (isVectorForm_iff w).mp h with hop | ⟨hop | hop, hf | hf | hf | hf⟩
  · simp only [decode32, hop]
    rfl
  all_goals
    simp only [decode32, hop, decodeLoadFp, decodeStoreFp, hf]
    rfl

theorem isCompressed_of_vectorForm {w : BitVec 32} (h : isVectorForm w = true) : isCompressed w = false := by
  have hlow : w.extractLsb' 0 2 = (fieldOpcode w).extractLsb' 0 2 := by simp [fieldOpcode]
  rw [isCompressed, hlow]
  rcases (isVectorForm_iff w).mp h with hop | ⟨hop | hop, -⟩ <;> rw [hop] <;> rfl

theorem decodeInst_eq_vectorForm_iff (w : BitVec 32) : decodeInst w = .error .vectorForm ↔ isVectorForm w = true := by
  constructor
  · intro h
    unfold decodeInst at h
    split at h
    · split at h <;> cases h
    · split at h
      · cases h
      · split at h
        · assumption
        · cases h
  · intro h
    simp only [decodeInst, isCompressed_of_vectorForm h, decode32_of_vectorForm h, h, Bool.false_eq_true, if_false, if_true]

end Sys2Proof

namespace Sys2Proof.Machine

/-! ### The accesses -/

theorem State.vectorAccesses_cons (s : State) (access : VectorAccess) (rest : List VectorAccess) :
    s.vectorAccesses (access :: rest) =
      match s.vectorAccess access with
      | .error e => .error e
      | .ok t => t.vectorAccesses rest := rfl

section
variable {s : State} {access : VectorAccess} {a : Word} {n : Nat} {effect : State}
  (e : s.vectorAccess access = s.vectorAccessAt a n effect) (rest : List VectorAccess)
include e

theorem State.vectorAccesses_of_check {c : Cause} (h : s.accessCheck false a n = some c) :
    s.vectorAccesses (access :: rest) = .error (.halt c a) := by
  rw [State.vectorAccesses_cons, e, State.vectorAccessAt, h]

theorem State.vectorAccesses_of_null (h : a.toNat < s.cfg.nullPageSize) :
    s.vectorAccesses (access :: rest) = .error (.halt .nullPageAccess a) :=
  State.vectorAccesses_of_check e rest (State.accessCheck_of_null false n h)

theorem State.vectorAccesses_of_misaligned (hpage : s.cfg.nullPageSize ≤ a.toNat) (hmust : s.cfg.requireAlignment = true)
    (ha : a.toNat % n ≠ 0) : s.vectorAccesses (access :: rest) = .error (.halt .misalignedAccess a) :=
  State.vectorAccesses_of_check e rest (State.accessCheck_of_misaligned hpage (.inr hmust) ha)

theorem State.vectorAccesses_of_not_allocated (h : OrdinaryPasses s a n) (hall : ¬AllocatedAll s a n) :
    s.vectorAccesses (access :: rest) = .error (.unallocated a) := by
  have hc := (s.accessCheck_eq_none_iff_passes false a n).mpr h
  have hb : ¬s.backed a n = true := fun hb => hall ((s.backed_iff a n).mp hb)
  rw [State.vectorAccesses_cons, e, State.vectorAccessAt, hc]
  simp only [if_neg hb]

theorem State.vectorAccesses_of_ok (h : OrdinaryOk s a n) :
    s.vectorAccesses (access :: rest) = effect.vectorAccesses rest := by
  have hc := (s.accessCheck_eq_none_iff_passes false a n).mpr h.1
  rw [State.vectorAccesses_cons, e, State.vectorAccessAt, hc]
  simp only [if_pos ((s.backed_iff a n).mpr h.2)]

end

/-! ### The answer -/

theorem State.readX_eq_ite (s : State) (k rd : Reg) :
    s.readX k = if k = 0 then 0 else if k = rd then s.readX k else s.readX k := by
  rw [ite_self]
  split
  · subst_vars; rfl
  · rfl

theorem State.readX_vectorResult (s : State) (w : BitVec 32) (r : VectorAnswer) (k : Reg) :
    (s.vectorResult w r).readX k = if k = 0 then 0 else if k = fieldRd w then r.xrd.getD (s.readX k) else s.readX k := by
  unfold State.vectorResult
  cases r.xrd <;> cases r.frd
  case none.none | none.some => exact s.readX_eq_ite k (fieldRd w)
  case some.none v | some.some v _ => exact s.readX_writeX (fieldRd w) k v

theorem State.readF_vectorResult (s : State) (w : BitVec 32) (r : VectorAnswer) (k : Reg) :
    (s.vectorResult w r).readF k = if k = fieldRd w then r.frd.getD (s.readF k) else s.readF k := by
  unfold State.vectorResult
  cases r.xrd <;> cases r.frd
  case none.none | some.none => exact (ite_self _).symm
  case none.some v => exact s.readF_writeF (fieldRd w) k v
  case some.some v' v => exact (s.writeX (fieldRd w) v').readF_writeF (fieldRd w) k v

/-- Settles O60: the form and its decoder, the step, the answer's effect, and the accesses one by one. -/
theorem vectorPort : Obligations.VectorPort := by
  refine ⟨fun w => (decodeInst_eq_vectorForm_iff w).trans (isVectorForm_iff w), ?_, fun w s => ⟨fun h => ?_, fun h => ?_⟩,
    fun s a v k rest => ⟨rfl, ?_, fun h => ⟨?_, ?_⟩⟩⟩
  · rintro s s₀ rfl hf hall hdec
    have hlow : (byteAt s₀.switchHart s₀.switchHart.pc 0).extractLsb' 0 2 = 0b11#2 := by
      have hc := isCompressed_of_vectorForm ((decodeInst_eq_vectorForm_iff _).mp hdec)
      simpa [isCompressed_word] using hc
    show s₀.switchHart.stepHart exec = _
    rw [hf.stepHart_eq, fetchedLength_fetchedBits, fetchedBits, if_pos hlow, if_pos hlow,
      if_pos ((State.backed_iff ..).mpr hall)]
    simp only [State.runWord, hdec]
  · simp only [vectorWord, h]
    rfl
  · refine ⟨fun c a e => ?_, fun a e => ?_, fun u e => ?_⟩
    · simp only [vectorWord, if_pos h, e]
      rfl
    · simp only [vectorWord, if_pos h, e]
    · obtain ⟨hframe, -, hothers, -⟩ := State.vectorAccesses_ok e
      have hx (k : Reg) : u.readX k = s.readX k := (congrArg (fun t => t.readX k) hframe :)
      have hf (k : Reg) : u.readF k = s.readF k := (congrArg (fun t => t.readF k) hframe :)
      have hfcsr : u.fcsr = s.fcsr := (congrArg (fun t => t.fcsr) hframe :)
      obtain ⟨x, f, ht⟩ := u.vectorResult_eq w (Config.vectorUnit (s.vectorRequest w))
      refine ⟨u.vectorResult w (Config.vectorUnit (s.vectorRequest w)), by simp only [vectorWord, if_pos h, e],
        ?_, ?_, ?_, ?_, fun k => ?_, fun k => ?_, ?_, ?_, ?_, ?_⟩
      · rw [ht]
      · rw [ht]
      · rw [ht]
      · rw [ht]; exact hothers
      · rw [State.readX_vectorResult, hx]; rfl
      · rw [State.readF_vectorResult, hf]; rfl
      · rw [ht, ← hfcsr]; exact fflagsOf_raise ..
      · rw [ht, ← hfcsr]; exact frmOf_raise ..
      · rw [ht]
      · rw [ht]
        exact congrArg (fun t : State => { t with x := s.x, f := s.f, fcsr := s.fcsr, vecUnit := s.vecUnit }) hframe
  · simp only [List.forall_mem_cons, List.not_mem_nil, IsEmpty.forall_iff, implies_true, and_true]
    constructor <;> exact ⟨State.vectorAccesses_of_null rfl rest, State.vectorAccesses_of_misaligned rfl rest,
      State.vectorAccesses_of_not_allocated rfl rest⟩
  · exact State.vectorAccesses_of_ok rfl rest h
  · exact ⟨s.store a (2 ^ k.val) v, State.vectorAccesses_of_ok rfl rest h,
      bytesStored_writeLE s.mem a _ v (two_pow_fin_four_le k), rfl,
      othersNotified_afterStore rfl, rfl⟩

end Sys2Proof.Machine
end

section
/-! PROOFS. The values the integer instructions compute, as integers: extensions, sums, shifts, products, quotients. -/

namespace Sys2Proof.Machine

/-! ### Words as integers -/

theorem natCast_toNat_ofInt {w : Nat} (k : Int) : ((BitVec.ofInt w k).toNat : Int) = k % 2 ^ w := by
  rw [BitVec.toNat_ofInt, Int.toNat_of_nonneg (Int.emod_nonneg _ (by positivity))]
  push_cast
  rfl

theorem ofInt_toNat {w : Nat} (x : BitVec w) : BitVec.ofInt w (x.toNat : Int) = x := by
  rw [BitVec.ofInt_natCast, BitVec.ofNat_toNat, BitVec.setWidth_eq]

theorem ofInt_sub {w : Nat} (j k : Int) : BitVec.ofInt w (j - k) = BitVec.ofInt w j - BitVec.ofInt w k := by
  rw [eq_comm, BitVec.sub_eq_iff_eq_add, ← BitVec.ofInt_add, Int.sub_add_cancel]

theorem setWidth_ofInt {w v : Nat} (h : v ≤ w) (k : Int) : (BitVec.ofInt w k).setWidth v = BitVec.ofInt v k := by
  refine BitVec.eq_of_toNat_eq (Int.ofNat_inj.mp ?_)
  rw [BitVec.toNat_setWidth, Int.natCast_emod, natCast_toNat_ofInt, natCast_toNat_ofInt]
  push_cast
  exact Int.emod_emod_of_dvd k (pow_dvd_pow 2 h)

/-- An extended immediate is its value modulo 2^64. -/
theorem sext_eq_ofInt {w : Nat} (v : BitVec w) : sext v = BitVec.ofInt 64 v.toInt := rfl

theorem add_sext_eq_ofInt {w : Nat} (a : Word) (v : BitVec w) : a + sext v = BitVec.ofInt 64 (a.toNat + v.toInt) := by
  rw [BitVec.ofInt_add, ofInt_toNat, sext_eq_ofInt]

theorem toInt_sext {w : Nat} (v : BitVec w) (h : w ≤ 64) : (sext v).toInt = v.toInt := BitVec.toInt_signExtend_of_le h

theorem getLsbD_sext {w : Nat} (v : BitVec w) (hw : 0 < w) {k : Nat} (hk : k < 64) :
    (sext v).getLsbD k = v.getLsbD (min k (w - 1)) := by
  rw [sext, BitVec.getLsbD_signExtend, decide_eq_true hk, Bool.true_and, BitVec.msb_eq_getLsbD_last]
  by_cases h : k < w
  · rw [if_pos h, min_eq_left (by omega)]
  · rw [if_neg h, min_eq_right (by omega)]

theorem shamt64_eq (v : Word) : shamt64 v = v.toNat % 64 := BitVec.toNat_setWidth ..

theorem shamt32_eq (v : Word) : shamt32 v = v.toNat % 32 := BitVec.toNat_setWidth ..

theorem toNat_shiftLeft_eq {w : Nat} (x : BitVec w) (n : Nat) : (x <<< n).toNat = x.toNat * 2 ^ n % 2 ^ w := by
  rw [BitVec.toNat_shiftLeft, Nat.shiftLeft_eq]

theorem toNat_ushiftRight_eq {w : Nat} (x : BitVec w) (n : Nat) : (x >>> n).toNat = x.toNat / 2 ^ n := by
  rw [BitVec.toNat_ushiftRight, Nat.shiftRight_eq_div_pow]

theorem toInt_sshiftRight_eq {w : Nat} (x : BitVec w) (n : Nat) : (x.sshiftRight n).toInt = x.toInt / 2 ^ n := by
  rw [BitVec.toInt_sshiftRight, Int.shiftRight_eq_div_pow]
  push_cast
  rfl

/-- An immediate followed by twelve zeros. -/
theorem toInt_sext_append_zeros {w : Nat} (x : BitVec w) (h : w + 12 ≤ 64) : (sext (x ++ 0#12)).toInt = x.toInt * 2 ^ 12 := by
  rw [toInt_sext _ h, BitVec.toInt_append_zero, Int.mul_comm]

/-! ### The word results -/

theorem lo32_ofInt (k : Int) : lo32 (BitVec.ofInt 64 k) = BitVec.ofInt 32 k := setWidth_ofInt (by decide) k

theorem toInt_sext_ofInt_word (k : Int) : (sext (BitVec.ofInt 32 k)).toInt = Int.bmod k (2 ^ 32) := by
  rw [toInt_sext _ (by decide), BitVec.toInt_ofInt]

theorem toInt_word_of_eq_ofInt {x : Word} {k : Int} (h : x = BitVec.ofInt 64 k) :
    (sext (lo32 x)).toInt = Int.bmod k (2 ^ 32) := by
  rw [h, lo32_ofInt, toInt_sext_ofInt_word]

theorem toInt_sext_shiftLeft (x : BitVec 32) (n : Nat) : (sext (x <<< n)).toInt = Int.bmod (x.toNat * 2 ^ n) (2 ^ 32) := by
  rw [toInt_sext _ (by decide), BitVec.toInt_shiftLeft, Nat.shiftLeft_eq]
  push_cast
  rfl

theorem toInt_sext_ushiftRight (x : BitVec 32) (n : Nat) : (sext (x >>> n)).toInt = Int.bmod (x.toNat / 2 ^ n) (2 ^ 32) := by
  rw [toInt_sext _ (by decide), BitVec.toInt_eq_toNat_bmod, toNat_ushiftRight_eq]
  push_cast
  rfl

/-! ### Products -/

theorem mulHigh_eq (a b : Int) : mulHigh a b = BitVec.ofInt 64 (a * b / 2 ^ 64) := by
  refine BitVec.eq_of_toNat_eq (Int.ofNat_inj.mp ?_)
  rw [mulHigh, BitVec.extractLsb'_toNat, Nat.shiftRight_eq_div_pow, natCast_toNat_ofInt]
  push_cast
  rw [natCast_toNat_ofInt]
  omega

theorem toInt_mulHigh {a b : Int} (hlo : -2 ^ 127 ≤ a * b) (hhi : a * b < 2 ^ 127) :
    (mulHigh a b).toInt = a * b / 2 ^ 64 := by
  rw [mulHigh_eq, BitVec.toInt_ofInt, Int.bmod_eq_of_le] <;> push_cast <;> omega

theorem toNat_mulHigh {a b : Nat} (h : a * b < 2 ^ 128) : (mulHigh a b).toNat = a * b / 2 ^ 64 := by
  have e := natCast_toNat_ofInt (w := 64) ((a : Int) * b / 2 ^ 64)
  rw [← mulHigh_eq] at e
  norm_cast at e
  rw [e, Nat.mod_eq_of_lt (by omega)]

/-! ### Quotients -/

section
variable {W : Nat} (hW : 0 < W) (a b : BitVec W)

theorem divUnsigned_spec : IsQuotientU a b (divUnsigned a b) := by
  unfold IsQuotientU divUnsigned
  split
  · exact BitVec.neg_one_eq_allOnes
  · rw [BitVec.toNat_ofNat, Nat.mod_eq_of_lt ((Nat.div_le_self _ _).trans_lt a.isLt)]

theorem remUnsigned_spec : IsRemainderU a b (remUnsigned a b) := by
  unfold IsRemainderU remUnsigned
  split
  · rfl
  · rw [BitVec.toNat_ofNat, Nat.mod_eq_of_lt ((Nat.mod_le _ _).trans_lt a.isLt)]

include hW

theorem toInt_intMin_eq : (BitVec.intMin W).toInt = -2 ^ (W - 1) := by
  rw [BitVec.toInt_intMin, Nat.mod_eq_of_lt (Nat.pow_lt_pow_right (by decide) (by omega))]
  push_cast
  rfl

theorem toInt_neg_one_eq : (-1 : BitVec W).toInt = -1 := by
  rw [show (-1 : BitVec W) = BitVec.allOnes W from BitVec.neg_one_eq_allOnes, BitVec.toInt_allOnes, if_pos hW]

/-- The signed overflow, as the instructions test it. -/
theorem overflow_iff : a = BitVec.intMin W ∧ b = -1 ↔ a.toInt = -2 ^ (W - 1) ∧ b.toInt = -1 := by
  rw [← BitVec.toInt_inj, toInt_intMin_eq hW, ← BitVec.toInt_inj (x := b), toInt_neg_one_eq hW]

theorem divSigned_spec : IsQuotient a b (divSigned a b) := by
  unfold IsQuotient divSigned
  split
  · exact BitVec.neg_one_eq_allOnes
  · simp only [overflow_iff hW]
    split
    · rfl
    case isFalse h =>
      rw [← overflow_iff hW, not_and_or] at h
      rw [BitVec.toInt_ofInt, ← BitVec.toInt_sdiv, BitVec.toInt_sdiv_of_ne_or_ne _ _ h]

theorem remSigned_spec : IsRemainder a b (remSigned a b) := by
  unfold IsRemainder remSigned
  split
  · rfl
  · simp only [overflow_iff hW]
    split
    · rfl
    · rw [← Int.tmod_def, ← BitVec.toInt_srem, BitVec.ofInt_toInt]

end

end Sys2Proof.Machine
end

section
/-! PROOFS. The integer computational instructions: each writes one register with the value its rule gives. -/

namespace Sys2Proof.Machine

theorem setsX_setReg {P : Word → Prop} (s : State) (rd : Reg) {v : Word} (hv : P v) : SetsX (setReg rd v s) s rd P :=
  ⟨_, v, rfl, hv, fun r => s.readX_writeX rd r v, rfl⟩

/-- Settles O5: the value of each instruction, by the lemma about its operation. -/
theorem immediateInstructions : Obligations.ImmediateInstructions := by
  intro s rd rs1 imm20 imm sh
  refine ⟨setsX_setReg s rd ?_, setsX_setReg s rd ?_, setsX_setReg s rd ?_, setsX_setReg s rd ?_, setsX_setReg s rd ?_,
    setsX_setReg s rd fun k hk => ?_, setsX_setReg s rd fun k hk => ?_, setsX_setReg s rd fun k hk => ?_,
    setsX_setReg s rd (toNat_shiftLeft_eq _ _), setsX_setReg s rd (toNat_ushiftRight_eq _ _),
    setsX_setReg s rd (toInt_sshiftRight_eq _ _)⟩
  · exact toInt_sext_append_zeros imm20 (by decide)
  · rw [immUpper, add_sext_eq_ofInt, natCast_toNat_ofInt, BitVec.toInt_append_zero, Int.mul_comm]
  · rw [add_sext_eq_ofInt, natCast_toNat_ofInt]
  · rw [ite_slt_eq, toInt_sext _ (by decide)]
  · rw [ite_ult_eq, ← natCast_toNat_ofInt (w := 64)]
    simp only [Int.ofNat_lt]
    rfl
  · rw [BitVec.getLsbD_xor, getLsbD_sext imm (by decide) hk]
  · rw [BitVec.getLsbD_or, getLsbD_sext imm (by decide) hk]
  · rw [BitVec.getLsbD_and, getLsbD_sext imm (by decide) hk]

theorem natCast_toNat_sub (a b : Word) : ((a - b).toNat : Int) = (a.toNat - b.toNat : Int) % 2 ^ 64 := by
  rw [← natCast_toNat_ofInt, ofInt_sub, ofInt_toNat, ofInt_toNat]

/-- Settles O6: the value of each instruction, by the lemma about its operation. -/
theorem registerInstructions : Obligations.RegisterInstructions := by
  intro s rd rs1 rs2
  refine ⟨setsX_setReg s rd (BitVec.toNat_add _ _), setsX_setReg s rd (natCast_toNat_sub _ _), setsX_setReg s rd ?_,
    setsX_setReg s rd (ite_slt_eq _ _ _ _), setsX_setReg s rd (ite_ult_eq _ _ _ _),
    setsX_setReg s rd fun k _ => BitVec.getLsbD_xor, setsX_setReg s rd ?_, setsX_setReg s rd ?_,
    setsX_setReg s rd fun k _ => BitVec.getLsbD_or, setsX_setReg s rd fun k _ => BitVec.getLsbD_and⟩
  · rw [shamt64_eq, toNat_shiftLeft_eq]
  · rw [shamt64_eq, toNat_ushiftRight_eq]
  · rw [shamt64_eq, toInt_sshiftRight_eq]

theorem add_eq_ofInt (a b : Word) : a + b = BitVec.ofInt 64 (a.toInt + b.toInt) := by
  rw [BitVec.ofInt_add, BitVec.ofInt_toInt, BitVec.ofInt_toInt]

theorem sub_eq_ofInt (a b : Word) : a - b = BitVec.ofInt 64 (a.toInt - b.toInt) := by
  rw [ofInt_sub, BitVec.ofInt_toInt, BitVec.ofInt_toInt]

theorem add_sext_eq_ofInt_toInt {w : Nat} (a : Word) (v : BitVec w) : a + sext v = BitVec.ofInt 64 (a.toInt + v.toInt) := by
  rw [BitVec.ofInt_add, BitVec.ofInt_toInt, sext_eq_ofInt]

/-- Settles O7: the 32-bit result of each instruction, sign-extended. -/
theorem wordInstructions : Obligations.WordInstructions := by
  intro s rd rs1 rs2 imm sh
  refine ⟨setsX_setReg s rd (toInt_word_of_eq_ofInt (add_sext_eq_ofInt_toInt _ _)),
    setsX_setReg s rd (toInt_sext_shiftLeft _ _), setsX_setReg s rd (toInt_sext_ushiftRight _ _), setsX_setReg s rd ?_,
    setsX_setReg s rd (toInt_word_of_eq_ofInt (add_eq_ofInt _ _)),
    setsX_setReg s rd (toInt_word_of_eq_ofInt (sub_eq_ofInt _ _)), setsX_setReg s rd ?_, setsX_setReg s rd ?_,
    setsX_setReg s rd ?_⟩
  · rw [toInt_sext _ (by decide), toInt_sshiftRight_eq]
  · rw [shamt32_eq]
    exact toInt_sext_shiftLeft _ _
  · rw [shamt32_eq]
    exact toInt_sext_ushiftRight _ _
  · rw [toInt_sext _ (by decide), shamt32_eq, toInt_sshiftRight_eq]

/-! ### Multiplication and division -/

section
variable (a b : Word)

theorem mul_toInt_toInt_bounds : -2 ^ 127 ≤ a.toInt * b.toInt ∧ a.toInt * b.toInt < 2 ^ 127 := by
  have ha := a.le_toInt
  have ha' := a.toInt_lt
  have hb := b.le_toInt
  have hb' := b.toInt_lt
  norm_num at *
  constructor <;> nlinarith

theorem mul_toInt_toNat_bounds : -2 ^ 127 ≤ a.toInt * b.toNat ∧ a.toInt * (b.toNat : Int) < 2 ^ 127 := by
  have ha := a.le_toInt
  have ha' := a.toInt_lt
  have hb := Int.ofNat_lt.mpr b.isLt
  have hb' := Int.natCast_nonneg b.toNat
  norm_num at *
  constructor <;> nlinarith

end

/-- Settles O8: the halves of the exact product. -/
theorem multiplyInstructions : Obligations.MultiplyInstructions := by
  intro s rd rs1 rs2
  refine ⟨setsX_setReg s rd (BitVec.toNat_mul _ _), setsX_setReg s rd ?_, setsX_setReg s rd ?_, setsX_setReg s rd ?_,
    setsX_setReg s rd ?_⟩
  · obtain ⟨hlo, hhi⟩ := mul_toInt_toInt_bounds (s.readX rs1) (s.readX rs2)
    exact toInt_mulHigh hlo hhi
  · obtain ⟨hlo, hhi⟩ := mul_toInt_toNat_bounds (s.readX rs1) (s.readX rs2)
    exact toInt_mulHigh hlo hhi
  · exact toNat_mulHigh ((Nat.mul_lt_mul'' (s.readX rs1).isLt (s.readX rs2).isLt).trans_eq (pow_add 2 64 64).symm)
  · rw [toInt_sext _ (by decide), BitVec.toInt_mul]

/-- Settles O9: the quotients and remainders at both widths. -/
theorem divideInstructions : Obligations.DivideInstructions := by
  intro s rd rs1 rs2
  have h32 : 0 < 32 := by decide
  have h64 : 0 < 64 := by decide
  exact ⟨setsX_setReg s rd (divSigned_spec h64 _ _), setsX_setReg s rd (divUnsigned_spec _ _),
    setsX_setReg s rd (remSigned_spec h64 _ _), setsX_setReg s rd (remUnsigned_spec _ _),
    setsX_setReg s rd ⟨_, divSigned_spec h32 _ _, toInt_sext _ (by decide)⟩,
    setsX_setReg s rd ⟨_, divUnsigned_spec _ _, toInt_sext _ (by decide)⟩,
    setsX_setReg s rd ⟨_, remSigned_spec h32 _ _, toInt_sext _ (by decide)⟩,
    setsX_setReg s rd ⟨_, remUnsigned_spec _ _, toInt_sext _ (by decide)⟩⟩

/-- Settles O10: the division law of the integers, for the quotient and the remainder that were specified. -/
theorem divisionLaw : Obligations.DivisionLaw := by
  intro W hW a b
  have hW : 0 < W := by omega
  have hq := divSigned_spec hW a b
  have hr := remSigned_spec hW a b
  have hqu := divUnsigned_spec a b
  have hru := remUnsigned_spec a b
  refine ⟨fun hb hov => ?_, fun hb => ?_, fun hb => ?_, fun ha hb => ?_⟩
  · rw [IsQuotient, if_neg hb, if_neg hov] at hq
    rw [IsRemainder, if_neg hb, if_neg hov, ← Int.tmod_def] at hr
    have hb : b.toInt ≠ 0 := fun h => hb (BitVec.toInt_inj.mp (h.trans BitVec.toInt_zero.symm))
    rw [hq, hr]
    refine ⟨(Int.mul_tdiv_add_tmod _ _).symm, ?_, Int.tmod_nonneg _, fun ha => ?_⟩
    · rw [Int.natAbs_tmod]
      exact Nat.mod_lt _ (Int.natAbs_pos.mpr hb)
    · have h := Int.tmod_nonneg (a := -a.toInt) b.toInt (by omega)
      rw [Int.neg_tmod] at h
      omega
  · rw [IsQuotientU, if_neg hb] at hqu
    rw [IsRemainderU, if_neg hb] at hru
    rw [hqu, hru]
    have hpos : 0 < b.toNat := Nat.pos_of_ne_zero fun h => hb (BitVec.eq_of_toNat_eq h)
    exact ⟨(Nat.div_add_mod _ _).symm, Nat.mod_lt _ hpos⟩
  · rw [IsQuotient, if_pos hb] at hq
    rw [IsRemainder, if_pos hb] at hr
    rw [IsQuotientU, if_pos hb] at hqu
    rw [IsRemainderU, if_pos hb] at hru
    exact ⟨hq, hqu, hr, hru⟩
  · have hne : b ≠ 0 := by
      rintro rfl
      simp at hb
    rw [IsQuotient, if_neg hne, if_pos ⟨ha, hb⟩] at hq
    rw [IsRemainder, if_neg hne, if_pos ⟨ha, hb⟩] at hr
    exact ⟨hq, hr⟩

end Sys2Proof.Machine
end

section
/-! PROOFS. Control transfers, and the compressed instructions. -/

namespace Sys2Proof.Machine

/-! ### Targets -/

theorem toNat_clearBit0 (a : Word) : (clearBit0 a).toNat = a.toNat / 2 * 2 := by
  have h : clearBit0 a = a >>> 1 <<< 1 := by
    rw [BitVec.shiftLeft_ushiftRight]
    rfl
  rw [h, toNat_clearLow, Nat.pow_one]

theorem clearBit0_eq_ofNat (a : Word) : clearBit0 a = BitVec.ofNat 64 (a.toNat / 2 * 2) := by
  rw [← toNat_clearBit0, BitVec.ofNat_toNat, BitVec.setWidth_eq]

theorem clearBit0_ofInt (k : Int) : clearBit0 (BitVec.ofInt 64 k) = BitVec.ofInt 64 (k / 2 * 2) := by
  refine BitVec.eq_of_toNat_eq (Int.ofNat_inj.mp ?_)
  have h := natCast_toNat_ofInt (w := 64) k
  rw [toNat_clearBit0, natCast_toNat_ofInt]
  push_cast
  rw [h]
  omega

/-! ### The shapes -/

theorem jumpAndLink_jumpsTo (s : State) (rd : Reg) (target link : Word) :
    JumpsTo (jumpAndLink rd target link s) s target rd link :=
  ⟨_, rfl, rfl, rfl, fun r => (s.jump target).readX_writeX rd r link, rfl⟩

theorem branch_eq {w : Nat} (s : State) (offset : BitVec w) {taken : Bool} {p : Prop} [Decidable p] (h : taken = true ↔ p) :
    branch taken (sext offset) s =
      .next (if p then { s with pc := BitVec.ofInt 64 (s.pc.toNat + offset.toInt), pcModified := true } else s) := by
  rw [branch, add_sext_eq_ofInt]
  simp only [h]
  rfl

theorem not_slt_iff {w : Nat} (a b : BitVec w) : (!a.slt b) = true ↔ a.toInt ≥ b.toInt := by
  rw [Bool.not_eq_true', ← Bool.not_eq_true, BitVec.slt_iff_toInt_lt, ge_iff_le, not_lt]

theorem not_ult_iff {w : Nat} (a b : BitVec w) : (!a.ult b) = true ↔ a.toNat ≥ b.toNat := by
  rw [Bool.not_eq_true', ← Bool.not_eq_true, BitVec.ult_iff_toNat_lt, ge_iff_le, not_lt]

/-- Settles O11: the target as an integer, the condition as a comparison. -/
theorem transferInstructions : Obligations.TransferInstructions := by
  intro s rd rs1 rs2 off imm off13
  refine ⟨?_, ?_, branch_eq s off13 beq_iff_eq, branch_eq s off13 bne_iff_ne, branch_eq s off13 BitVec.slt_iff_toInt_lt,
    branch_eq s off13 (not_slt_iff _ _), branch_eq s off13 BitVec.ult_iff_toNat_lt, branch_eq s off13 (not_ult_iff _ _)⟩
  · rw [← add_sext_eq_ofInt]
    exact jumpAndLink_jumpsTo ..
  · rw [← clearBit0_ofInt, ← add_sext_eq_ofInt]
    exact jumpAndLink_jumpsTo ..

/-- Settles O36: as the transfers they stand for. -/
theorem compressedTransfers : Obligations.CompressedTransfers := by
  intro s r c o12 o9
  refine ⟨?_, branch_eq s o9 beq_iff_eq, branch_eq s o9 bne_iff_ne, ?_, ?_⟩
  · rw [← add_sext_eq_ofInt]
    rfl
  · rw [← clearBit0_eq_ofNat]
    rfl
  · rw [← clearBit0_eq_ofNat]
    exact jumpAndLink_jumpsTo ..

/-- Settles O15: the meanings themselves. -/
theorem fencesAndEnvironmentCalls : Obligations.FencesAndEnvironmentCalls :=
  fun _ _ _ _ _ _ _ _ => ⟨rfl, rfl, rfl, rfl, rfl, rfl⟩

/-! ### The compressed computations -/

theorem toNat_cReg (c : CReg) : (cReg c).toNat = 8 + c.toNat := by
  rw [cReg, BitVec.toNat_append, Nat.shiftLeft_eq, Nat.mul_comm, ← Nat.two_pow_add_eq_or_of_lt c.isLt]
  rfl

/-- Settles O34: the value of each instruction, by the lemma about its operation. -/
theorem compressedComputations : Obligations.CompressedComputations := by
  intro s rd rs2 c d u imm
  refine ⟨setsX_setReg s _ ?_, setsX_setReg s _ ?_, setsX_setReg s _ (toInt_word_of_eq_ofInt (add_sext_eq_ofInt_toInt _ _)),
    setsX_setReg s _ (toInt_sext imm (by decide)), setsX_setReg s _ ?_,
    setsX_setReg s _ (toInt_sext_append_zeros imm (by decide)), setsX_setReg s _ (toNat_ushiftRight_eq _ _),
    setsX_setReg s _ (toInt_sshiftRight_eq _ _), setsX_setReg s _ fun k hk => ?_, setsX_setReg s _ (natCast_toNat_sub _ _),
    setsX_setReg s _ rfl, setsX_setReg s _ rfl, setsX_setReg s _ rfl,
    setsX_setReg s _ (toInt_word_of_eq_ofInt (sub_eq_ofInt _ _)), setsX_setReg s _ (toInt_word_of_eq_ofInt (add_eq_ofInt _ _)),
    setsX_setReg s _ (toNat_shiftLeft_eq _ _), setsX_setReg s _ rfl, setsX_setReg s _ (BitVec.toNat_add _ _), toNat_cReg c⟩
  · rw [BitVec.toNat_add, zext, BitVec.toNat_setWidth_of_le (by decide)]
  · rw [add_sext_eq_ofInt, natCast_toNat_ofInt]
  · rw [add_sext_eq_ofInt, natCast_toNat_ofInt]
  · rw [BitVec.getLsbD_and, getLsbD_sext imm (by decide) hk]

/-! ### Expansions -/

theorem sext_signExtend {w v : Nat} (x : BitVec w) (h : w ≤ v) : sext (x.signExtend v) = sext x := by
  rw [sext_eq_ofInt, sext_eq_ofInt, BitVec.toInt_signExtend_of_le h]

/-- A field that is shorter than the immediate it fills is not negative there. -/
theorem sext_setWidth {w v : Nat} (x : BitVec w) (h : w < v) : sext (x.setWidth v) = zext x := by
  refine BitVec.eq_of_getLsbD_eq fun k hk => ?_
  rw [getLsbD_sext _ (by omega) hk, zext, BitVec.getLsbD_setWidth, BitVec.getLsbD_setWidth, decide_eq_true hk]
  by_cases hkv : k < v
  · rw [min_eq_left (by omega), decide_eq_true hkv]
  · rw [min_eq_right (by omega), BitVec.getLsbD_of_ge x k (by omega), BitVec.getLsbD_of_ge x (v - 1) (by omega),
      Bool.and_false, Bool.and_false]

theorem len_of_expansion {c i : Instr} (h : expansion c = some i) : c.len = 2 ∧ i.len = 4 := by
  cases c <;> cases h
  all_goals exact ⟨rfl, rfl⟩

theorem immUpper_signExtend (x : BitVec 6) : immUpper (x.signExtend 20) = immUpper6 x := by
  rw [immUpper, immUpper6, sext_eq_ofInt, sext_eq_ofInt, BitVec.toInt_append_zero, BitVec.toInt_append_zero,
    BitVec.toInt_signExtend_of_le (by decide)]

/-- The jump of a jump that links in `x0`. -/
theorem jumpAndLink_zero (target link : Word) (s : State) : jumpAndLink 0 target link s = .next (s.jump target) := rfl

theorem add_sext_zero (a : Word) : a + sext (0 : BitVec 12) = a := BitVec.add_zero a

theorem exec_expansion {c i : Instr} (s : State) (h : expansion c = some i) (hne : ∀ r, c ≠ .cJalr r) :
    exec c s = exec i s := by
  cases c <;> cases h
  case cJalr r => exact absurd rfl (hne r)
  case cAddi4spn rd u =>
    exact congrArg (fun d => setReg (cReg rd) (s.readX sp + d) s) (sext_setWidth u (by decide)).symm
  case cLw rd b u =>
    exact congrArg (fun d => loadX 4 (fun v => sext (lo32 v)) (cReg rd) (s.ea (cReg b) d) s)
      (sext_setWidth u (by decide)).symm
  case cLd rd b u =>
    exact congrArg (fun d => loadX 8 id (cReg rd) (s.ea (cReg b) d) s) (sext_setWidth u (by decide)).symm
  case cFld rd b u =>
    exact congrArg (fun d => loadF 8 id (cReg rd) (s.ea (cReg b) d) s) (sext_setWidth u (by decide)).symm
  case cSw r b u =>
    exact congrArg (fun d => storeV 4 (s.ea (cReg b) d) (s.readX (cReg r)) s) (sext_setWidth u (by decide)).symm
  case cSd r b u =>
    exact congrArg (fun d => storeV 8 (s.ea (cReg b) d) (s.readX (cReg r)) s) (sext_setWidth u (by decide)).symm
  case cFsd r b u =>
    exact congrArg (fun d => storeV 8 (s.ea (cReg b) d) (s.readF (cReg r)) s) (sext_setWidth u (by decide)).symm
  case cLwsp rd u =>
    exact congrArg (fun d => loadX 4 (fun v => sext (lo32 v)) rd (s.ea sp d) s) (sext_setWidth u (by decide)).symm
  case cLdsp rd u => exact congrArg (fun d => loadX 8 id rd (s.ea sp d) s) (sext_setWidth u (by decide)).symm
  case cFldsp rd u => exact congrArg (fun d => loadF 8 id rd (s.ea sp d) s) (sext_setWidth u (by decide)).symm
  case cSwsp r u => exact congrArg (fun d => storeV 4 (s.ea sp d) (s.readX r) s) (sext_setWidth u (by decide)).symm
  case cSdsp r u => exact congrArg (fun d => storeV 8 (s.ea sp d) (s.readX r) s) (sext_setWidth u (by decide)).symm
  case cFsdsp r u => exact congrArg (fun d => storeV 8 (s.ea sp d) (s.readF r) s) (sext_setWidth u (by decide)).symm
  case cAddi rd imm =>
    exact congrArg (fun d => setReg rd (s.readX rd + d) s) (sext_signExtend imm (by decide)).symm
  case cAddiw rd imm =>
    exact congrArg (fun d => setReg rd (sext (lo32 (s.readX rd + d))) s) (sext_signExtend imm (by decide)).symm
  case cAddi16sp imm =>
    exact congrArg (fun d => setReg sp (s.readX sp + d) s) (sext_signExtend imm (by decide)).symm
  case cAndi rd imm =>
    exact congrArg (fun d => setReg (cReg rd) (s.readX (cReg rd) &&& d) s) (sext_signExtend imm (by decide)).symm
  case cLi rd imm =>
    exact congrArg (fun d => setReg rd d s) ((BitVec.zero_add _).trans (sext_signExtend imm (by decide))).symm
  case cLui rd imm => exact congrArg (fun d => setReg rd d s) (immUpper_signExtend imm).symm
  case cMv rd r => exact congrArg (fun d => setReg rd d s) (BitVec.zero_add _).symm
  case cBeqz r off =>
    exact congrArg (fun d => branch (s.readX (cReg r) == 0) d s) (sext_signExtend off (by decide)).symm
  case cBnez r off =>
    exact congrArg (fun d => branch (s.readX (cReg r) != 0) d s) (sext_signExtend off (by decide)).symm
  case cJ off =>
    exact congrArg (fun d => Host.Outcome.next (s.jump (s.pc + d))) (sext_signExtend off (by decide)).symm
  case cJr r => exact congrArg (fun a => Host.Outcome.next (s.jump (clearBit0 a))) (add_sext_zero _).symm
  all_goals rfl

/-- Settles O4: the same operation on the same registers; only the widths of the immediates differ. -/
theorem compressedIsExpansion : Obligations.CompressedIsExpansion := by
  refine ⟨fun c i s h hne => exec_expansion s h hne, fun c i h => len_of_expansion h,
    fun r s => ⟨jumpAndLink_jumpsTo .., ?_⟩⟩
  rw [← add_sext_zero (s.readX r)]
  exact jumpAndLink_jumpsTo ..

end Sys2Proof.Machine
end

section
/-! PROOFS. The CSR instructions, and what is rejected at execution. -/

namespace Sys2Proof.Machine

/-! ### The fields of `fcsr` -/

@[simp] theorem frmOf_append (frm : BitVec 3) (fflags : BitVec 5) : frmOf (frm ++ fflags) = frm := by
  refine BitVec.eq_of_getLsbD_eq fun i hi => ?_
  simp only [frmOf, BitVec.getLsbD_extractLsb', BitVec.getLsbD_append]
  simp [hi]

@[simp] theorem fflagsOf_append (frm : BitVec 3) (fflags : BitVec 5) : fflagsOf (frm ++ fflags) = fflags := by
  refine BitVec.eq_of_getLsbD_eq fun i hi => ?_
  simp only [fflagsOf, BitVec.getLsbD_extractLsb', BitVec.getLsbD_append]
  simp [hi]

theorem frmOf_append_fflagsOf (fcsr : BitVec 8) : (frmOf fcsr ++ fflagsOf fcsr : BitVec (3 + 5)) = fcsr := by
  refine BitVec.eq_of_getLsbD_eq fun i hi => ?_
  simp only [frmOf, fflagsOf, BitVec.getLsbD_append, BitVec.getLsbD_extractLsb']
  grind only

theorem extractLsb'_zext {w : Nat} (v : BitVec w) (hw : w ≤ 64) : (zext v).extractLsb' 0 w = v := by
  refine BitVec.eq_of_getLsbD_eq fun i hi => ?_
  simp only [zext, BitVec.getLsbD_extractLsb', BitVec.getLsbD_setWidth, Nat.zero_add, hi, show i < 64 by omega,
    decide_true, Bool.true_and]

theorem frmOf_extractLsb' (v : Word) : frmOf (v.extractLsb' 0 8) = v.extractLsb' 5 3 := by
  refine BitVec.eq_of_getLsbD_eq fun i hi => ?_
  simp only [frmOf, BitVec.getLsbD_extractLsb', hi, show 5 + i < 8 by omega, decide_true, Bool.true_and, Nat.zero_add]

theorem fflagsOf_extractLsb' (v : Word) : fflagsOf (v.extractLsb' 0 8) = v.extractLsb' 0 5 := by
  refine BitVec.eq_of_getLsbD_eq fun i hi => ?_
  simp only [fflagsOf, BitVec.getLsbD_extractLsb', hi, show i < 8 by omega, decide_true, Bool.true_and, Nat.zero_add]

/-- A CSR that is written with the value read from it is unchanged. -/
theorem csrWrite_of_csrRead {fcsr : BitVec 8} {csr : BitVec 12} {t : Word} (h : csrRead fcsr csr = some t) :
    csrWrite fcsr csr t = fcsr := by
  unfold csrRead at h
  unfold csrWrite
  split at h
  · cases h
    exact (congrArg (frmOf fcsr ++ ·) (extractLsb'_zext _ (by decide))).trans (frmOf_append_fflagsOf fcsr)
  · cases h
    exact (congrArg (· ++ fflagsOf fcsr) (extractLsb'_zext _ (by decide))).trans (frmOf_append_fflagsOf fcsr)
  · cases h
    exact extractLsb'_zext fcsr (by decide)
  · cases h

/-! ### The shape -/

/-- What a CSR instruction would write; nothing to write is the value read. -/
def Updates (update : Word → Option Word) (new : Word → Word) : Prop := ∀ t, (update t).getD t = new t

theorem csrOp_of_read {i : Instr} {s : State} {rd : Reg} {csr : BitVec 12} {update : Word → Option Word} {new : Word → Word}
    (hu : Updates update new) {t : Word} (h : csrRead s.fcsr csr = some t) :
    csrOp i rd csr update s = .next (State.writeX { s with fcsr := csrWrite s.fcsr csr (new t) } rd t) := by
  rcases csrOp_cases i rd csr update s with ⟨t', h', e⟩ | ⟨h', -⟩
  · cases h.symm.trans h'
    rw [e, ← hu t]
    cases hv : update t with
    | none => rw [Option.getD_none, csrWrite_of_csrRead h]
    | some v => rfl
  · cases h.symm.trans h'

theorem accessesCsr_csrOp (i : Instr) (s : State) (rd : Reg) (csr : BitVec 12) {update : Word → Option Word}
    {new : Word → Word} (hu : Updates update new) : AccessesCsr (csrOp i rd csr update s) s rd csr new := by
  refine ⟨?_, ?_, ?_⟩ <;> rintro rfl
  · exact ⟨_, csrOp_of_read hu rfl, fun r => State.readX_writeX _ rd r _, fflagsOf_append .., frmOf_append .., rfl⟩
  · exact ⟨_, csrOp_of_read hu rfl, fun r => State.readX_writeX _ rd r _, fflagsOf_append .., frmOf_append .., rfl⟩
  · exact ⟨_, csrOp_of_read hu rfl, fun r => State.readX_writeX _ rd r _, fflagsOf_extractLsb' .., frmOf_extractLsb' .., rfl⟩

theorem updates_some (new : Word → Word) : Updates (fun t => some (new t)) new := fun _ => rfl

theorem updates_ite {p : Prop} [Decidable p] {new : Word → Word} (h : p → ∀ t, new t = t) :
    Updates (fun t => if p then none else some (new t)) new := fun t => by
  by_cases hp : p
  · simp [hp, h hp t]
  · simp [hp]

theorem zext_eq_ofNat {w : Nat} (v : BitVec w) : zext v = BitVec.ofNat 64 v.toNat :=
  (BitVec.ofNat_toNat 64 v).symm

theorem and_not_zero (t : Word) : t &&& ~~~0#64 = t := by rw [BitVec.not_zero, BitVec.and_allOnes]

/-- Settles O18: each instruction updates the value as its rule says; a zero source changes nothing. -/
theorem csrInstructions : Obligations.CsrInstructions := by
  intro s rd rs1 csr uimm
  simp only [← zext_eq_ofNat]
  refine ⟨accessesCsr_csrOp (.csrrw rd csr rs1) s rd csr (updates_some fun _ => s.readX rs1),
    accessesCsr_csrOp (.csrrs rd csr rs1) s rd csr (updates_ite (new := fun t => t ||| s.readX rs1) ?_),
    accessesCsr_csrOp (.csrrc rd csr rs1) s rd csr (updates_ite (new := fun t => t &&& ~~~s.readX rs1) ?_),
    accessesCsr_csrOp (.csrrwi rd csr uimm) s rd csr (updates_some fun _ => zext uimm),
    accessesCsr_csrOp (.csrrsi rd csr uimm) s rd csr (updates_ite (new := fun t => t ||| zext uimm) ?_),
    accessesCsr_csrOp (.csrrci rd csr uimm) s rd csr (updates_ite (new := fun t => t &&& ~~~zext uimm) ?_)⟩ <;>
    rintro rfl t
  · exact BitVec.or_zero
  · exact and_not_zero t
  · exact BitVec.or_zero
  · exact and_not_zero t

/-! ### Rejections -/

theorem csrRead_eq_none {fcsr : BitVec 8} {csr : BitVec 12} (h1 : csr ≠ 0x001) (h2 : csr ≠ 0x002) (h3 : csr ≠ 0x003) :
    csrRead fcsr csr = none := by
  unfold csrRead
  split
  · exact absurd rfl h1
  · exact absurd rfl h2
  · exact absurd rfl h3
  · rfl

theorem csrOp_of_none {i : Instr} {s : State} {rd : Reg} {csr : BitVec 12} {update : Word → Option Word}
    (h : csrRead s.fcsr csr = none) :
    csrOp i rd csr update s = .next { s with run := .halted .unimplementedInstruction (zext (encode i)) } := by
  rw [csrOp, h]
  rfl

theorem withRm_of_none {i : Instr} {rm : BitVec 3} {effect : RoundingMode → State} {s : State}
    (h : effectiveRm s.fcsr rm = none) :
    withRm i rm effect s = .next { s with run := .halted .unimplementedInstruction (zext (encode i)) } := by
  rw [withRm, h]
  rfl

theorem ofBits_eq_none {b : BitVec 3} (h : 5 ≤ b.toNat) : RoundingMode.ofBits b = none := by
  revert b
  decide

theorem effectiveRm_eq_none {fcsr : BitVec 8} {rm : BitVec 3} (h : 5 ≤ (if rm = 7 then frmOf fcsr else rm).toNat) :
    effectiveRm fcsr rm = none := ofBits_eq_none h

/-- An instruction with a rounding-mode field runs through that field. -/
theorem exec_of_rmField {i : Instr} {rm : BitVec 3} (h : rmField i = some rm) (s : State) :
    ∃ effect, exec i s = withRm i rm effect s := by
  cases i <;> cases h
  all_goals exact ⟨_, rfl⟩

/-- Settles O19: the CSR that is none of the three is not read, and a reserved mode stops the instruction before its effect. -/
theorem executionRejects : Obligations.ExecutionRejects := by
  refine ⟨fun s rd rs1 csr uimm h1 h2 h3 => ?_, fun i s rm hrm h => ?_⟩
  · have h : csrRead s.fcsr csr = none := csrRead_eq_none h1 h2 h3
    simp only [List.forall_mem_cons, List.not_mem_nil, IsEmpty.forall_iff, implies_true, and_true]
    unfold exec
    exact ⟨csrOp_of_none h, csrOp_of_none h, csrOp_of_none h, csrOp_of_none h, csrOp_of_none h, csrOp_of_none h⟩
  · obtain ⟨effect, e⟩ := exec_of_rmField hrm s
    rw [e, withRm_of_none (effectiveRm_eq_none h)]

end Sys2Proof.Machine
end

section
/-! PROOFS. The floating-point instructions: operands, the primitive, the result boxed, the flags. -/

namespace Sys2Proof.Machine

/-! ### The shapes -/

section
variable (s : State) (rd : Reg)

theorem setsF_resultD (r : Word × Flags) : SetsF (.next (s.resultD rd r)) s rd r.1 r.2 :=
  ⟨_, rfl, fun k => s.readF_writeF rd k r.1, frmOf_raise .., fflagsOf_raise .., rfl⟩

theorem setsF_resultS (r : BitVec 32 × Flags) : SetsF (.next (s.resultS rd r)) s rd (box32 r.1) r.2 :=
  ⟨_, rfl, fun k => s.readF_writeF rd k (box32 r.1), frmOf_raise .., fflagsOf_raise .., rfl⟩

theorem setsF_writeF {v v' : Word} (h : v = v') : SetsF (.next (s.writeF rd v)) s rd v' Flags.none :=
  ⟨_, rfl, fun k => h ▸ s.readF_writeF rd k v, rfl, (BitVec.or_zero).symm, rfl⟩

theorem setsXFlags_resultX (r : Word × Flags) : SetsXFlags (.next (s.resultX rd r)) s rd r.1 r.2 :=
  ⟨_, rfl, fun k => s.readX_writeX rd k r.1, frmOf_raise .., fflagsOf_raise .., rfl⟩

variable {s} {i : Instr} {rm : BitVec 3} {r : RoundingMode} (h : RmSelects s rm r)
include h

theorem withRm_of_selects (effect : RoundingMode → State) : withRm i rm effect s = .next (effect r) := by
  have h : effectiveRm s.fcsr rm = some r := h
  rw [withRm, h]

theorem setsF_withRm_resultD (result : RoundingMode → Word × Flags) :
    SetsF (withRm i rm (fun r => s.resultD rd (result r)) s) s rd (result r).1 (result r).2 :=
  withRm_of_selects h _ ▸ setsF_resultD s rd (result r)

theorem setsF_withRm_resultS (result : RoundingMode → BitVec 32 × Flags) :
    SetsF (withRm i rm (fun r => s.resultS rd (result r)) s) s rd (box32 (result r).1) (result r).2 :=
  withRm_of_selects h _ ▸ setsF_resultS s rd (result r)

theorem setsXFlags_withRm_resultX (result : RoundingMode → Word × Flags) :
    SetsXFlags (withRm i rm (fun r => s.resultX rd (result r)) s) s rd (result r).1 (result r).2 :=
  withRm_of_selects h _ ▸ setsXFlags_resultX s rd (result r)

end

/-! ### The instructions with a rounding-mode field -/

/-- Settles O27: each is the shared shape with its negations. -/
theorem fusedInstructions : Obligations.FusedInstructions := by
  intro s rd rs1 rs2 rs3 rm r h
  unfold exec
  exact ⟨setsF_withRm_resultS rd h _, setsF_withRm_resultS rd h _, setsF_withRm_resultS rd h _,
    setsF_withRm_resultS rd h _, setsF_withRm_resultD rd h _, setsF_withRm_resultD rd h _, setsF_withRm_resultD rd h _,
    setsF_withRm_resultD rd h _⟩

/-- Settles O28: each is the shared shape with its primitive. -/
theorem floatArithmeticInstructions : Obligations.FloatArithmeticInstructions := by
  intro s rd rs1 rs2 rm r h
  simp only [List.forall_mem_cons, List.not_mem_nil, IsEmpty.forall_iff, implies_true, and_true]
  unfold exec
  exact ⟨setsF_withRm_resultS rd h _, setsF_withRm_resultS rd h _, setsF_withRm_resultS rd h _,
    setsF_withRm_resultS rd h _, setsF_withRm_resultS rd h _, setsF_withRm_resultD rd h _, setsF_withRm_resultD rd h _,
    setsF_withRm_resultD rd h _, setsF_withRm_resultD rd h _, setsF_withRm_resultD rd h _⟩

/-- A conversion to an integer writes its result, a 32-bit one sign-extended. -/
theorem setsXFlags_withRm_intWord {s : State} (rd : Reg) {i : Instr} {rm : BitVec 3} {r : RoundingMode}
    (h : RmSelects s rm r) (result : RoundingMode → BitVec 32 × Flags) :
    ∃ v : Word, v.toInt = (result r).1.toInt ∧
      SetsXFlags (withRm i rm (fun r => s.resultX rd (intWord (result r))) s) s rd v (result r).2 :=
  ⟨_, toInt_sext _ (by decide), setsXFlags_withRm_resultX rd h fun r => intWord (result r)⟩

/-- Settles O30: each is the shared shape with its conversion. -/
theorem floatToIntInstructions : Obligations.FloatToIntInstructions := by
  intro s rd rs1 rm r h
  simp only [List.forall_mem_cons, List.not_mem_nil, IsEmpty.forall_iff, implies_true, and_true]
  unfold exec
  exact ⟨setsXFlags_withRm_intWord rd h fun r => f2i .s r (s.readS rs1) 32 true,
    setsXFlags_withRm_intWord rd h fun r => f2i .s r (s.readS rs1) 32 false,
    ⟨_, rfl, setsXFlags_withRm_resultX rd h _⟩, ⟨_, rfl, setsXFlags_withRm_resultX rd h _⟩,
    setsXFlags_withRm_intWord rd h fun r => f2i .d r (s.readF rs1) 32 true,
    setsXFlags_withRm_intWord rd h fun r => f2i .d r (s.readF rs1) 32 false,
    ⟨_, rfl, setsXFlags_withRm_resultX rd h _⟩, ⟨_, rfl, setsXFlags_withRm_resultX rd h _⟩⟩

/-- Settles O32: zero and rounding by the definitions, each instruction by the shared shape. -/
theorem toFloatInstructions : Obligations.ToFloatInstructions := by
  refine ⟨fun F m rm n => rfl, fun F rm x => ⟨rfl, rfl⟩, fun s rd rs1 rm r h => ?_⟩
  simp only [List.forall_mem_cons, List.not_mem_nil, IsEmpty.forall_iff, implies_true, and_true]
  unfold exec
  exact ⟨setsF_withRm_resultS rd h _, setsF_withRm_resultS rd h _, setsF_withRm_resultS rd h _,
    setsF_withRm_resultS rd h _, setsF_withRm_resultD rd h _, setsF_withRm_resultD rd h _, setsF_withRm_resultD rd h _,
    setsF_withRm_resultD rd h _, setsF_withRm_resultS rd h _, setsF_withRm_resultD rd h _⟩

/-! ### Sign injection -/

theorem Fmt.getLsbD_negate (F : Fmt) (a : F.Pattern) {k : Nat} (hk : k < F.width) :
    (F.negate a).getLsbD k = (a.getLsbD k ^^ decide (k = F.width - 1)) := by
  have h : F.mk true 0 0 = BitVec.twoPow F.width (F.width - 1) := by cases F <;> decide
  rw [Fmt.negate, h, BitVec.getLsbD_xor, BitVec.getLsbD_twoPow, decide_eq_true (by omega), Bool.true_and]
  congr 1
  exact decide_eq_decide.mpr eq_comm

theorem Fmt.sign_eq_getLsbD (F : Fmt) (a : F.Pattern) : F.sign a = a.getLsbD (F.width - 1) := BitVec.msb_eq_getLsbD_last a

/-- The pattern with a given sign: that bit over the other bits. -/
theorem getLsbD_withSign (F : Fmt) (sign : Bool) (a : F.Pattern) {k : Nat} (hk : k < F.width) :
    (withSign F sign a).getLsbD k = if k = F.width - 1 then sign else a.getLsbD k := by
  unfold withSign
  rw [F.sign_eq_getLsbD]
  by_cases hs : a.getLsbD (F.width - 1) = sign
  · rw [if_pos hs]
    split
    · subst_vars; rfl
    · rfl
  · rw [if_neg hs, F.getLsbD_negate a hk]
    split
    · subst_vars
      cases h : a.getLsbD (F.width - 1) <;> simp_all
    · simp [*]

theorem withSign_single (sign : BitVec 1) (a : BitVec 32) :
    withSign .s (sign.getLsbD 0) a = sign ++ a.extractLsb' 0 31 := by
  refine BitVec.eq_of_getLsbD_eq fun k hk => ?_
  rw [getLsbD_withSign .s _ a hk, BitVec.getLsbD_append, BitVec.getLsbD_extractLsb']
  have hk : k < 32 := hk
  show (if k = 31 then _ else _) = _
  by_cases h : k = 31
  · subst h; rfl
  · have hlt : k < 31 := by omega
    rw [if_neg h, if_pos hlt, decide_eq_true hlt, Nat.zero_add, Bool.true_and]

theorem withSign_double (sign : BitVec 1) (a : BitVec 64) :
    withSign .d (sign.getLsbD 0) a = sign ++ a.extractLsb' 0 63 := by
  refine BitVec.eq_of_getLsbD_eq fun k hk => ?_
  rw [getLsbD_withSign .d _ a hk, BitVec.getLsbD_append, BitVec.getLsbD_extractLsb']
  have hk : k < 64 := hk
  show (if k = 63 then _ else _) = _
  by_cases h : k = 63
  · subst h; rfl
  · have hlt : k < 63 := by omega
    rw [if_neg h, if_pos hlt, decide_eq_true hlt, Nat.zero_add, Bool.true_and]

theorem sign_single (a : BitVec 32) : Fmt.s.sign a = (a.extractLsb' 31 1).getLsbD 0 := by
  rw [Fmt.sign_eq_getLsbD, BitVec.getLsbD_extractLsb']
  rfl

theorem sign_double (a : BitVec 64) : Fmt.d.sign a = (a.extractLsb' 63 1).getLsbD 0 := by
  rw [Fmt.sign_eq_getLsbD, BitVec.getLsbD_extractLsb']
  rfl

theorem not_getLsbD_zero (b : BitVec 1) : (!b.getLsbD 0) = (~~~b).getLsbD 0 := by
  rw [BitVec.getLsbD_not]
  rfl

theorem xor_getLsbD_zero (a b : BitVec 1) : (a.getLsbD 0 ^^ b.getLsbD 0) = (a ^^^ b).getLsbD 0 := BitVec.getLsbD_xor.symm

theorem setsF_writeS {s : State} (rd : Reg) {w w' : BitVec 32} (h : w = w') :
    SetsF (.next (s.writeS rd w)) s rd (box32 w') Flags.none :=
  setsF_writeF s rd (congrArg box32 h)

/-- Settles O29: the sign the rule gives, over the other bits; the minimum and the maximum by the shared shape. -/
theorem signAndMinMaxInstructions : Obligations.SignAndMinMaxInstructions := by
  intro s rd rs1 rs2 a b c d
  unfold exec
  refine ⟨setsF_writeS rd ?_, setsF_writeS rd ?_, setsF_writeS rd ?_, setsF_writeF s rd ?_, setsF_writeF s rd ?_,
    setsF_writeF s rd ?_, setsF_resultS s rd _, setsF_resultS s rd _, setsF_resultD s rd _, setsF_resultD s rd _⟩
  · rw [fsgnj, sign_single, withSign_single]
  · rw [fsgnjn, sign_single, not_getLsbD_zero, withSign_single]
  · rw [fsgnjx, sign_single, sign_single, xor_getLsbD_zero, withSign_single]
  · rw [fsgnj, sign_double, withSign_double]
  · rw [fsgnjn, sign_double, not_getLsbD_zero, withSign_double]
  · rw [fsgnjx, sign_double, sign_double, xor_getLsbD_zero, withSign_double]

/-! ### Comparisons, classes, moves -/

theorem extractLsb'_zero_eq_lo32 (v : Word) : v.extractLsb' 0 32 = lo32 v :=
  BitVec.setWidth_eq_extractLsb' (by decide) |>.symm

/-- Settles O31: the shared shapes with each primitive; the moves copy bits. -/
theorem compareClassMoveInstructions : Obligations.CompareClassMoveInstructions := by
  intro s rd rs1 rs2 a b c d
  simp only [List.forall_mem_cons, List.not_mem_nil, IsEmpty.forall_iff, implies_true, and_true]
  unfold exec
  refine ⟨⟨setsXFlags_resultX s rd _, setsXFlags_resultX s rd _, setsXFlags_resultX s rd _, setsXFlags_resultX s rd _,
    setsXFlags_resultX s rd _, setsXFlags_resultX s rd _⟩, setsX_setReg s rd rfl, setsX_setReg s rd rfl,
    setsX_setReg s rd ?_, ?_, setsX_setReg s rd rfl, setsF_writeF s rd rfl⟩
  · rw [toInt_sext _ (by decide), lo32, BitVec.toInt_setWidth]
  · rw [extractLsb'_zero_eq_lo32]
    exact setsF_writeS rd rfl

/-! ### Boxing -/

theorem unbox32_box32 (w : BitVec 32) : unbox32 (box32 w) = w := by
  have hhi : (box32 w).extractLsb' 32 32 = 0xFFFFFFFF#32 := by
    refine BitVec.eq_of_getLsbD_eq fun i hi => ?_
    simp only [box32, BitVec.getLsbD_extractLsb', BitVec.getLsbD_append, hi, decide_true, Bool.true_and]
    simp
  rw [unbox32, if_pos hhi]
  refine BitVec.eq_of_getLsbD_eq fun i hi => ?_
  simp only [lo32, box32, BitVec.getLsbD_setWidth, BitVec.getLsbD_append, hi, decide_true, Bool.true_and, if_true]

theorem toNat_box32 (w : BitVec 32) : (box32 w).toNat = 0xFFFFFFFF * 2 ^ 32 + w.toNat := by
  rw [box32, BitVec.toNat_append, Nat.shiftLeft_eq, Nat.mul_comm, ← Nat.two_pow_add_eq_or_of_lt w.isLt, Nat.mul_comm]
  rfl

/-- Settles O33: the upper half, as a number, is the quotient by 2^32. -/
theorem nanBoxing : Obligations.NanBoxing := by
  refine ⟨toNat_box32, fun v => ?_, fun s rd r w => ?_, fun s r => rfl⟩
  · have hlt : v.toNat / 2 ^ 32 < 2 ^ 32 := Nat.div_lt_of_lt_mul v.isLt
    have hhi : v.extractLsb' 32 32 = 0xFFFFFFFF#32 ↔ v.toNat / 2 ^ 32 = 0xFFFFFFFF := by
      rw [← BitVec.toNat_inj, BitVec.extractLsb'_toNat, Nat.shiftRight_eq_div_pow, Nat.mod_eq_of_lt hlt]
      rfl
    rw [unbox32, BitVec.ofNat_toNat]
    simp only [hhi]
    rfl
  · rw [State.readS, State.writeS, State.readF_writeF]
    split
    · exact unbox32_box32 w
    · rfl

end Sys2Proof.Machine
end

section
/-! PROOFS. Reset, and the creation and destruction of harts. -/

namespace Sys2Proof.Machine

theorem Hart.reset_ok (cfg : Config) (id : Nat) : (Hart.reset id).Ok cfg := ⟨BitVec.getLsbD_zero, rfl, Nat.zero_le _, nofun⟩

/-- Settles O57: the values of the record, and a halted hart in front. -/
theorem resetValues : Obligations.ResetValues := by
  refine ⟨fun r => ⟨?_, Vector.getElem_replicate ..⟩, rfl, rfl, rfl, rfl, rfl, rfl, rfl, rfl, rfl⟩
  rw [State.readX, ite_eq_left_iff]
  exact fun _ => Vector.getElem_replicate ..

/-! ### Creation -/

theorem State.allHarts_create {cfg : Config} (h : 1 ≤ cfg.numHarts) :
    (State.create cfg).allHarts = (List.range cfg.numHarts).map Hart.reset := by
  obtain ⟨n, hn⟩ := Nat.exists_eq_add_of_le' h
  rw [hn, List.range_succ_eq_map, List.map_cons, List.map_map]
  show Hart.reset 0 :: (List.range (cfg.numHarts - 1)).map _ = _
  rw [hn, Nat.add_sub_cancel]
  rfl

theorem State.create_ok {cfg : Config} (h : 1 ≤ cfg.numHarts) : (State.create cfg).Ok := by
  have hall := State.allHarts_create h
  refine ⟨rfl, ?_, ?_, ?_⟩
  · rw [hall]
    exact List.forall_mem_map.mpr fun id _ => Hart.reset_ok cfg id
  · rw [hall, List.map_map]
    exact List.nodup_range.map fun _ _ h => h
  · rw [hall, List.length_map, List.length_range]
    exact le_rfl

/-! ### Attach -/

theorem State.attach_of_refused {s : State} {id : Nat}
    (h : id ∈ s.allHarts.map Hart.hartId ∨ s.cfg.numHarts ≤ s.allHarts.length) : s.attach id = s := if_pos h

theorem State.attach_of_allowed {s : State} {id : Nat}
    (h : ¬(id ∈ s.allHarts.map Hart.hartId ∨ s.cfg.numHarts ≤ s.allHarts.length)) :
    (s.attach id).allHarts.Perm (Hart.reset id :: s.allHarts) ∧ (s.attach id).mem = s.mem ∧ (s.attach id).cfg = s.cfg := by
  rw [State.attach, if_neg h]
  split
  · refine ⟨?_, rfl, rfl⟩
    show (s.front ++ (s.harts ++ [Hart.reset id])).Perm (Hart.reset id :: (s.front ++ s.harts))
    rw [← List.append_assoc]
    exact List.perm_append_singleton ..
  case isFalse hatt =>
    refine ⟨?_, rfl, rfl⟩
    show (Hart.reset id :: s.harts).Perm (Hart.reset id :: (s.front ++ s.harts))
    rw [State.front, if_neg hatt]
    exact .refl _

theorem State.attach_ok {s : State} (hs : s.Ok) (id : Nat) : (s.attach id).Ok := by
  by_cases h : id ∈ s.allHarts.map Hart.hartId ∨ s.cfg.numHarts ≤ s.allHarts.length
  · rw [State.attach_of_refused h]
    exact hs
  obtain ⟨hall, hmem, hcfg⟩ := State.attach_of_allowed h
  obtain ⟨hnew, hroom⟩ := not_or.mp h
  refine ⟨hmem ▸ hs.memory, fun g hg => ?_, ?_, ?_⟩
  · rw [hcfg]
    rcases List.mem_cons.mp (hall.mem_iff.mp hg) with rfl | hg
    · exact Hart.reset_ok s.cfg id
    · exact hs.harts g hg
  · exact (hall.map Hart.hartId).nodup_iff.mpr (List.nodup_cons.mpr ⟨hnew, hs.ids⟩)
  · rw [hall.length_eq, hcfg, List.length_cons]
    omega

/-! ### Detach -/

theorem filter_hartId_ne_eq_self {id : Nat} {l : List Hart} (h : ∀ g ∈ l, g.hartId ≠ id) :
    l.filter (fun g => g.hartId ≠ id) = l :=
  List.filter_eq_self.mpr fun g hg => decide_eq_true (h g hg)

theorem State.detach_allHarts {s : State} (hs : (s.allHarts.map Hart.hartId).Nodup) (id : Nat) :
    (s.detach id).allHarts = s.allHarts.filter fun h => h.hartId ≠ id := by
  unfold State.allHarts at hs ⊢
  rw [List.filter_append]
  unfold State.detach
  split
  case isTrue h =>
    obtain ⟨hatt, rfl⟩ := h
    have hfront : s.front = [s.toHart] := if_pos hatt
    rw [hfront, List.singleton_append, List.map_cons, List.nodup_cons] at hs
    have hothers : ∀ g ∈ s.harts, g.hartId ≠ s.hartId := fun g hg e => hs.1 (e ▸ List.mem_map_of_mem hg)
    rw [hfront, filter_hartId_ne_eq_self hothers]
    unfold State.detachFront
    cases hh : s.harts with
    | nil => simp [State.front]
    | cons g rest => simp [State.front, hatt]
  case isFalse h =>
    have hfront : ∀ g ∈ s.front, g.hartId ≠ id := fun g hg e => by
      obtain ⟨hatt, rfl⟩ := State.mem_front_iff.mp hg
      exact h ⟨hatt, e.symm⟩
    rw [filter_hartId_ne_eq_self hfront]
    show s.front ++ s.harts.filter (fun h => h.hartId != id) = _
    congr 2
    funext g
    rw [Bool.eq_iff_iff]
    simp

theorem State.detach_frame (s : State) (id : Nat) : (s.detach id).mem = s.mem ∧ (s.detach id).cfg = s.cfg := by
  unfold State.detach State.detachFront
  split
  · split <;> exact ⟨rfl, rfl⟩
  · exact ⟨rfl, rfl⟩

theorem State.detach_ok {s : State} (hs : s.Ok) (id : Nat) : (s.detach id).Ok := by
  have hall := State.detach_allHarts hs.ids id
  obtain ⟨hmem, hcfg⟩ := s.detach_frame id
  refine ⟨hmem ▸ hs.memory, fun g hg => ?_, ?_, ?_⟩
  · rw [hall] at hg
    exact hcfg ▸ hs.harts g (List.mem_of_mem_filter hg)
  · rw [hall]
    exact hs.ids.sublist (List.filter_sublist.map _)
  · rw [hall, hcfg]
    exact (List.length_filter_le _ _).trans hs.count

/-- Settles O56: creation, attaching and detaching, by the harts each leaves. -/
theorem resetIsOk : Obligations.ResetIsOk := by
  refine ⟨State.create_ok (by decide), fun cfg h => ⟨State.create_ok h, ?_, ?_⟩, fun s id hs =>
    ⟨State.attach_ok hs id, State.detach_ok hs id, fun hnew hroom => ?_, fun h => ?_, State.detach_allHarts hs.ids id⟩⟩
  · rw [State.allHarts_create h, List.length_map, List.length_range]
  · rw [State.allHarts_create h]
    exact List.forall_mem_map.mpr fun _ _ => rfl
  · refine (State.attach_of_allowed ?_).1
    rintro (hid | hfull)
    · obtain ⟨g, hg, e⟩ := List.mem_map.mp hid
      exact hnew g hg e
    · omega
  · exact State.attach_of_refused (h.imp (fun ⟨g, hg, e⟩ => List.mem_map.mpr ⟨g, hg, e⟩) (·.ge))

end Sys2Proof.Machine
end

section
/-! PROOFS. The runtime-call bridge (spec/60_exceptions.md rule R592) and the guard of the environment's acts. -/

namespace Sys2Proof.Machine

/-! ### The guard -/

theorem State.whileHalted_of_running {s : State} (h : s.run = .running) (act : State → State) :
    State.whileHalted act s = s := by
  rcases s.whileHalted_cases act with ⟨h', -⟩ | ⟨-, e⟩
  · exact absurd h h'
  · exact e

theorem State.whileHalted_of_halted {s : State} (h : s.run ≠ .running) (hatt : s.attached = true) (act : State → State) :
    State.whileHalted act s = act s := by
  rcases s.whileHalted_cases act with ⟨-, -, e⟩ | ⟨h' | h', -⟩
  · exact e
  · exact absurd h' h
  · simp [hatt] at h'

/-! ### What the host leaves -/

/-- The state the host function leaves: the registers of the contract, `frm` and the monitors as in `s`, all else as `e`
says. -/
def State.afterHost (s : State) (e : HostEffect) : State :=
  { s with
    x := Vector.ofFn fun r => if preservedX r.val then s.x[r] else e.x[r]
    f := Vector.ofFn fun r => if preservedF r.val then s.f[r] else e.f[r]
    fcsr := frmOf s.fcsr ++ e.fflags
    mem := e.memory s.mem
    allocated := e.allocated }

/-- The results of a runtime call in their registers. -/
def State.deliver (s : State) : CallKind → State
  | .plain a0 => s.writeX 10 a0
  | .paired a0 a1 => (s.writeX 10 a0).writeX 11 a1
  | .double fa0 => s.writeF 10 fa0
  | .noResult => s

theorem State.readX_afterHost {s : State} {e : HostEffect} {r : Reg} (h : preservedX r.toNat = true) :
    (s.afterHost e).readX r = s.readX r := by
  unfold State.readX State.afterHost
  split
  · rfl
  · rw [Vector.getElem_ofFn, if_pos h]
    rfl

theorem State.readF_afterHost {s : State} {e : HostEffect} {r : Reg} (h : preservedF r.toNat = true) :
    (s.afterHost e).readF r = s.readF r := by
  unfold State.readF State.afterHost
  rw [Vector.getElem_ofFn, if_pos h]
  rfl

theorem State.readX_writeX_of_ne (s : State) {rd r : Reg} (v : Word) (h : r ≠ rd) : (s.writeX rd v).readX r = s.readX r :=
  readX_eq_of_ne (fun k => s.readX_writeX rd k v) h.symm

theorem State.readX_deliver (s : State) (k : CallKind) {r : Reg} (h10 : r ≠ 10) (h11 : r ≠ 11) :
    (s.deliver k).readX r = s.readX r := by
  cases k with
  | plain a0 => exact s.readX_writeX_of_ne a0 h10
  | paired a0 a1 => exact ((s.writeX 10 a0).readX_writeX_of_ne a1 h11).trans (s.readX_writeX_of_ne a0 h10)
  | double fa0 | noResult => rfl

theorem State.readF_deliver (s : State) (k : CallKind) {r : Reg} (h10 : r ≠ 10) : (s.deliver k).readF r = s.readF r := by
  cases k with
  | double fa0 => exact (s.readF_writeF 10 r fa0).trans (if_neg h10)
  | plain a0 | paired a0 a1 | noResult => rfl

theorem State.readX_deliver_ten {s : State} (k : CallKind) {v : Word} (h : s.readX 10 = v) :
    (s.deliver k).readX 10 = match k with | .plain a | .paired a _ => a | _ => v := by
  cases k with
  | plain a0 => exact s.readX_writeX 10 10 a0
  | paired a0 a1 => exact ((s.writeX 10 a0).readX_writeX_of_ne a1 (by decide)).trans (s.readX_writeX 10 10 a0)
  | double | noResult => exact h

theorem State.readX_deliver_eleven {s : State} (k : CallKind) {v : Word} (h : s.readX 11 = v) :
    (s.deliver k).readX 11 = match k with | .paired _ b => b | _ => v := by
  cases k with
  | plain a0 => exact (s.readX_writeX_of_ne a0 (by decide)).trans h
  | paired a0 a1 => exact (s.writeX 10 a0).readX_writeX 11 11 a1
  | double | noResult => exact h

theorem State.readF_deliver_ten {s : State} (k : CallKind) {v : Word} (h : s.readF 10 = v) :
    (s.deliver k).readF 10 = match k with | .double a => a | _ => v := by
  cases k with
  | double a0 => exact s.readF_writeF 10 10 a0
  | plain | paired | noResult => exact h

/-! The host leaves the monitors, the other harts and the run-control state; the delivery touches registers only. -/

@[simp] theorem State.afterHost_lm (s : State) (e : HostEffect) : (s.afterHost e).lm = s.lm := by rw [State.afterHost]
@[simp] theorem State.afterHost_gm (s : State) (e : HostEffect) : (s.afterHost e).gm = s.gm := by rw [State.afterHost]
@[simp] theorem State.afterHost_harts (s : State) (e : HostEffect) : (s.afterHost e).harts = s.harts := by rw [State.afterHost]
@[simp] theorem State.afterHost_icount (s : State) (e : HostEffect) : (s.afterHost e).icount = s.icount := by
  rw [State.afterHost]
@[simp] theorem State.afterHost_breakpoints (s : State) (e : HostEffect) : (s.afterHost e).breakpoints = s.breakpoints := by
  rw [State.afterHost]
@[simp] theorem State.afterHost_run (s : State) (e : HostEffect) : (s.afterHost e).run = s.run := by rw [State.afterHost]
@[simp] theorem State.afterHost_attached (s : State) (e : HostEffect) : (s.afterHost e).attached = s.attached := by
  rw [State.afterHost]
@[simp] theorem State.afterHost_fcsr (s : State) (e : HostEffect) : (s.afterHost e).fcsr = frmOf s.fcsr ++ e.fflags := by
  rw [State.afterHost]

@[simp] theorem State.deliver_fcsr (s : State) (k : CallKind) : (s.deliver k).fcsr = s.fcsr := by cases k <;> rfl
@[simp] theorem State.deliver_lm (s : State) (k : CallKind) : (s.deliver k).lm = s.lm := by cases k <;> rfl
@[simp] theorem State.deliver_gm (s : State) (k : CallKind) : (s.deliver k).gm = s.gm := by cases k <;> rfl
@[simp] theorem State.deliver_harts (s : State) (k : CallKind) : (s.deliver k).harts = s.harts := by cases k <;> rfl
@[simp] theorem State.deliver_icount (s : State) (k : CallKind) : (s.deliver k).icount = s.icount := by cases k <;> rfl
@[simp] theorem State.deliver_breakpoints (s : State) (k : CallKind) : (s.deliver k).breakpoints = s.breakpoints := by
  cases k <;> rfl
@[simp] theorem State.deliver_run (s : State) (k : CallKind) : (s.deliver k).run = s.run := by cases k <;> rfl
@[simp] theorem State.deliver_attached (s : State) (k : CallKind) : (s.deliver k).attached = s.attached := by cases k <;> rfl

theorem State.served_eq (s : State) (k : CallKind) (e : HostEffect) :
    s.served k e = State.resume false { (s.afterHost e).deliver k with pc := s.readX ra } := by
  cases k <;> rfl

/-- The bridge's outcome at an ECALL. -/
theorem State.bridgeReturn_eq {s : State} {info : Word} (h : s.run = .halted .environmentCall info)
    (hatt : s.attached = true) (k : CallKind) (e : HostEffect) :
    s.bridgeReturn k e =
      { (s.afterHost e).deliver k with pc := s.readX ra, run := .running, resumeSkip := false } := by
  have hne : s.run ≠ .running := by simp [h]
  have hserved : s.bridgeReturn k e = s.served k e := by
    rw [State.bridgeReturn, h]
    exact State.whileHalted_of_halted hne hatt fun s => s.served k e
  have hrun : ((s.afterHost e).deliver k).run ≠ .running := by simpa using hne
  have hatt : ((s.afterHost e).deliver k).attached = true := by simpa using hatt
  rw [hserved, State.served_eq]
  generalize (s.afterHost e).deliver k = u at hrun hatt
  exact State.whileHalted_of_halted (s := { u with pc := s.readX ra }) hrun hatt
    fun s => { s with run := .running, resumeSkip := false }

theorem State.bridgeReturn_of_ne {s : State} (h : ∀ info, s.run ≠ .halted .environmentCall info) (k : CallKind)
    (e : HostEffect) : s.bridgeReturn k e = s := by
  unfold State.bridgeReturn
  split
  · exact absurd ‹_› (h _)
  · rfl

theorem preservedX_of_mem : ∀ r : Reg, r ∈ [0, 1, 2, 3, 4, 8, 9, 18, 19, 20, 21, 22, 23, 24, 25, 26, 27] →
    preservedX r.toNat = true ∧ r ≠ 10 ∧ r ≠ 11 := by decide

theorem preservedF_of_mem : ∀ r : Reg, r ∈ [8, 9, 18, 19, 20, 21, 22, 23, 24, 25, 26, 27] →
    preservedF r.toNat = true ∧ r ≠ 10 := by decide

/-- Settles O59: at an ECALL the contract's registers by the two lemmas about them; else the guard. -/
theorem bridgeContract : Obligations.BridgeContract := by
  intro s k e t
  refine ⟨fun info h hatt => ?_, fun h => State.bridgeReturn_of_ne h k e, fun h w ranges a b =>
    ⟨State.whileHalted_of_running h _, State.whileHalted_of_running h _, State.whileHalted_of_running h _,
      State.whileHalted_of_running h _, State.whileHalted_of_running h _⟩⟩
  have ht : t = _ := State.bridgeReturn_eq h hatt k e
  have hx (r : Reg) : t.readX r = ((s.afterHost e).deliver k).readX r := by rw [ht]; rfl
  have hf (r : Reg) : t.readF r = ((s.afterHost e).deliver k).readF r := by rw [ht]; rfl
  refine ⟨by rw [ht], by rw [ht], by rw [ht]; rfl, ?_, ?_, ?_, ?_, ?_, ?_, fun r hr => ?_, fun r hr => ?_, ?_, ?_, ?_⟩
  · rw [ht]
    simp
  · rw [ht]
    simp
  · rw [ht]
    simp
  · rw [ht]
    simp
  · rw [ht]
    simp
  · rw [ht]
    simp
  · obtain ⟨hp, h10, h11⟩ := preservedX_of_mem r hr
    rw [hx, State.readX_deliver _ k h10 h11, State.readX_afterHost hp]
  · obtain ⟨hp, h10⟩ := preservedF_of_mem r hr
    rw [hf, State.readF_deliver _ k h10, State.readF_afterHost hp]
  · exact (hx 10).trans (State.readX_deliver_ten k (State.readX_afterHost (by decide)))
  · exact (hx 11).trans (State.readX_deliver_eleven k (State.readX_afterHost (by decide)))
  · exact (hf 10).trans (State.readF_deliver_ten k (State.readF_afterHost (by decide)))

end Sys2Proof.Machine
end

section
/-! PROOFS. The launch convention (spec/70_reset_and_hazards.md rule R602). -/

namespace Sys2Proof.Machine

/-! ### Arguments in registers -/

theorem State.setArgs_frame (s : State) (r : Nat) (args : List Word) : { s.setArgs r args with x := s.x } = s := by
  induction args generalizing s r with
  | nil => rfl
  | cons v rest ih => exact congrArg (fun t : State => { t with x := s.x }) (ih (s.writeX (BitVec.ofNat 5 r) v) (r + 1))

/-- A register outside those of the arguments reads as before. -/
theorem State.readX_setArgs_of_not_mem (s : State) {start : Nat} {args : List Word} {r : Reg}
    (hfit : start + args.length ≤ 32) (h : ¬(start ≤ r.toNat ∧ r.toNat < start + args.length)) :
    (s.setArgs start args).readX r = s.readX r := by
  induction args generalizing s start with
  | nil => rfl
  | cons v rest ih =>
    rw [List.length_cons] at hfit h
    refine (ih (s.writeX (BitVec.ofNat 5 start) v) (by omega) (by omega)).trans (s.readX_writeX_of_ne v ?_)
    rintro rfl
    rw [BitVec.toNat_ofNat, Nat.mod_eq_of_lt (by omega)] at h
    omega

theorem ofNat_reg_ne_zero {n : Nat} (hpos : 0 < n) (hlt : n < 32) : BitVec.ofNat 5 n ≠ 0 := fun e => by
  have h := congrArg BitVec.toNat e
  rw [BitVec.toNat_ofNat, Nat.mod_eq_of_lt (by omega)] at h
  exact hpos.ne' h

/-- Argument `k` is in the `k`-th register. -/
theorem State.readX_setArgs (s : State) {start : Nat} {args : List Word} (hpos : 0 < start)
    (hfit : start + args.length ≤ 32) {k : Nat} (hk : k < args.length) :
    (s.setArgs start args).readX (BitVec.ofNat 5 (start + k)) = args[k] := by
  induction args generalizing s start k with
  | nil => exact absurd hk (Nat.not_lt_zero k)
  | cons v rest ih =>
    rw [List.length_cons] at hfit hk
    cases k with
    | zero =>
      have hlt : (BitVec.ofNat 5 start).toNat = start := Nat.mod_eq_of_lt (by omega)
      rw [Nat.add_zero]
      refine (State.readX_setArgs_of_not_mem (s.writeX (BitVec.ofNat 5 start) v) (by omega) (by omega)).trans ?_
      rw [State.readX_writeX, if_neg (ofNat_reg_ne_zero hpos (by omega)), if_pos rfl]
      rfl
    | succ k =>
      rw [← Nat.add_assoc, Nat.add_right_comm]
      exact ih (s.writeX (BitVec.ofNat 5 start) v) (by omega) (by omega) (by omega)

/-! ### Arguments on the stack -/

theorem Memory.readLE_congr {m m' : Memory} {a : Word} {n : Nat} (hn : n ≤ 8)
    (h : ∀ i < n, Memory.read m (a + BitVec.ofNat 64 i).toNat = Memory.read m' (a + BitVec.ofNat 64 i).toNat) :
    Memory.readLE m a n = Memory.readLE m' a n := by
  refine BitVec.eq_of_getLsbD_eq fun i _ => ?_
  rw [Memory.getLsbD_readLE _ _ _ _ hn, Memory.getLsbD_readLE _ _ _ _ hn]
  by_cases hi : i < 8 * n
  · rw [h (i / 8) (by omega)]
  · simp [hi]

theorem Memory.readLE_writeLE (m : Memory) (a v : Word) : Memory.readLE (Memory.writeLE m a 8 v) a 8 = v := by
  have h := mixedWidthReads m a v 0 8 le_rfl
  rw [BitVec.add_zero] at h
  rw [h, Nat.mul_zero, pow_zero, Nat.div_one, Nat.mod_eq_of_lt v.isLt, BitVec.ofNat_toNat, BitVec.setWidth_eq]

/-- The distance from the next doubleword. -/
theorem toNat_sub_add_eight (a b : Word) : (b - (a + 8)).toNat = ((b - a).toNat + (2 ^ 64 - 8)) % 2 ^ 64 := by
  rw [show b - (a + 8) = b - a - 8 from sub_add_eq_sub_sub b a 8, BitVec.toNat_sub, Nat.add_comm]
  rfl

theorem Memory.read_writeDoublewords_of_not_mem (m : Memory) {a b : Word} {vs : List Word} (hfit : 8 * vs.length < 2 ^ 64)
    (h : 8 * vs.length ≤ (b - a).toNat) :
    Memory.read (Memory.writeDoublewords m a vs) b.toNat = Memory.read m b.toNat := by
  induction vs generalizing m a with
  | nil => rfl
  | cons v rest ih =>
    rw [List.length_cons] at hfit h
    have hnext := toNat_sub_add_eight a b
    have hlt := (b - a).isLt
    refine (ih (Memory.writeLE m a 8 v) (a := a + 8) (by omega) (by omega)).trans ?_
    rw [Memory.read_writeLE _ _ _ _ _ le_rfl, if_neg (by omega)]

theorem Memory.readLE_writeDoublewords (m : Memory) (a : Word) {vs : List Word} (hfit : 8 * vs.length < 2 ^ 64) {k : Nat}
    (hk : k < vs.length) : Memory.readLE (Memory.writeDoublewords m a vs) (a + BitVec.ofNat 64 (8 * k)) 8 = vs[k] := by
  induction vs generalizing m a k with
  | nil => exact absurd hk (Nat.not_lt_zero k)
  | cons v rest ih =>
    rw [List.length_cons] at hfit hk
    cases k with
    | zero =>
      refine Eq.trans ?_ (Memory.readLE_writeLE m a v)
      rw [Nat.mul_zero, BitVec.add_zero]
      refine Memory.readLE_congr le_rfl fun i hi => ?_
      refine Memory.read_writeDoublewords_of_not_mem (Memory.writeLE m a 8 v) (a := a + 8) (by omega) ?_
      have hi' : (a + BitVec.ofNat 64 i - a).toNat = i := by
        rw [BitVec.add_comm, BitVec.add_sub_cancel, BitVec.toNat_ofNat, Nat.mod_eq_of_lt (by omega)]
      rw [toNat_sub_add_eight, hi']
      omega
    | succ k =>
      have haddr : a + BitVec.ofNat 64 (8 * (k + 1)) = a + 8 + BitVec.ofNat 64 (8 * k) := by
        rw [Nat.mul_succ, Nat.add_comm (8 * k), BitVec.ofNat_add, ← BitVec.add_assoc]
        rfl
      rw [haddr]
      exact ih (Memory.writeLE m a 8 v) (a + 8) (by omega) (by omega)

/-! ### The launch -/

theorem toNat_alignDown {cfg : Config} {k : Nat} (h : cfg.stackAlign = 2 ^ k) (a : Word) :
    (alignDown cfg a).toNat = a.toNat / 2 ^ k * 2 ^ k := by
  rw [alignDown, h, Nat.log2_two_pow, toNat_clearLow]

/-- The stack pointer of a launch. -/
def State.launchSp (s : State) (args : List Word) : Word :=
  alignDown s.cfg (s.readX sp - 8 * BitVec.ofNat 64 (args.drop 8).length)

theorem State.launchSp_eq (s : State) (args : List Word) :
    s.launchSp args = alignDown s.cfg (s.readX 2 - BitVec.ofNat 64 (8 * (args.length - 8))) := by
  rw [State.launchSp, List.length_drop, BitVec.ofNat_mul]
  rfl

theorem State.readX_launched (s : State) (entry : Word) (args : List Word) (r : Reg) :
    (s.launched entry args).readX r =
      if r = 1 then s.cfg.endSimPc else if r = 2 then s.launchSp args else (s.setArgs 10 (args.take 8)).readX r := by
  show (State.writeX (State.writeX _ sp (s.launchSp args)) ra _).readX r = _
  rw [State.readX_writeX, State.readX_writeX]
  split
  · subst_vars; rfl
  · rfl

theorem State.mem_launched (s : State) (entry : Word) (args : List Word) :
    (s.launched entry args).mem = Memory.writeDoublewords s.mem (s.launchSp args) (args.drop 8) := by
  have hmem : (s.setArgs 10 (args.take 8)).mem = s.mem := (congrArg State.mem (s.setArgs_frame 10 (args.take 8)) :)
  rw [← hmem]
  rfl

theorem State.launched_frame (s : State) (entry : Word) (args : List Word) :
    { s.launched entry args with x := s.x, pc := s.pc, run := s.run, resumeSkip := s.resumeSkip, mem := s.mem } = s :=
  congrArg (fun t : State => { t with pc := s.pc, run := s.run, resumeSkip := s.resumeSkip, mem := s.mem })
    (s.setArgs_frame 10 (args.take 8))

/-- Settles O58: the register arguments and the stack arguments by the lemmas about storing them one after the other. -/
theorem launchConvention : Obligations.LaunchConvention := by
  refine ⟨fun cfg a k h => ?_, fun s entry args => ⟨fun h => State.whileHalted_of_running h _, fun hrun hatt hlen => ?_,
    fun hrun hatt d0 d1 => ?_⟩⟩
  · rw [toNat_alignDown h]
    exact ⟨Nat.mul_mod_left _ _, Nat.div_mul_le_self _ _, Nat.lt_div_mul_add (by positivity)⟩
  · intro t sp'
    have ht : t = s.launched entry args := State.whileHalted_of_halted hrun hatt fun s => s.launched entry args
    have hsp : sp' = s.launchSp args := (s.launchSp_eq args).symm
    have hstack : (args.drop 8).length = args.length - 8 := List.length_drop
    have hregs : (args.take 8).length = min 8 args.length := List.length_take
    have hx (r : Reg) (h1 : r ≠ 1) (h2 : r ≠ 2) : t.readX r = (s.setArgs 10 (args.take 8)).readX r := by
      rw [ht, State.readX_launched, if_neg h1, if_neg h2]
    have hmem : t.mem = Memory.writeDoublewords s.mem sp' (args.drop 8) := by rw [ht, hsp, State.mem_launched]
    refine ⟨by rw [ht]; rfl, by rw [ht]; rfl, by rw [ht]; rfl, by rw [ht]; exact State.readX_launched .., ?_,
      fun k hk hk8 => ?_, fun k hk hk8 => ?_, fun b hb => ?_, fun r h1 h2 hr => ?_, by rw [ht]; exact s.launched_frame ..⟩
    · rw [ht, hsp]
      exact State.readX_launched ..
    · have hreg : (BitVec.ofNat 5 (10 + k)).toNat = 10 + k := Nat.mod_eq_of_lt (by omega)
      rw [hx _ (fun e => by rw [e] at hreg; exact absurd hreg (by simp; omega))
        (fun e => by rw [e] at hreg; exact absurd hreg (by simp; omega)),
        State.readX_setArgs s (by decide) (by omega) (by omega), List.getElem_take]
    · rw [← State.load_doubleword, State.load, hmem, Memory.readLE_writeDoublewords _ _ (by omega) (by omega),
        List.getElem_drop]
      congr 1
      omega
    · rw [hmem]
      exact Memory.read_writeDoublewords_of_not_mem _ (by omega) (by omega)
    · rw [hx r h1 h2]
      exact State.readX_setArgs_of_not_mem s (by omega) (by omega)
  · intro u
    have hu : u = ((s.launched entry []).writeF 10 d0).writeF 11 d1 :=
      State.whileHalted_of_halted hrun hatt fun s => ((s.launched entry []).writeF 10 d0).writeF 11 d1
    have hl : State.launch entry [] s = s.launched entry [] :=
      State.whileHalted_of_halted hrun hatt fun s => s.launched entry []
    refine ⟨fun r => ?_, by rw [hu, hl]; rfl⟩
    rw [hu, State.readF_writeF, State.readF_writeF]
    by_cases h10 : r = 10
    · subst h10; rfl
    · simp only [h10, if_false]
      rfl

end Sys2Proof.Machine
end


section
/-! PROOFS. The arithmetic primitives: the exact operations are those of the rationals, and of the ordered cases of each
primitive the statement's hypotheses pick one (spec/45_fp_primitives.md rules R380 to R384, R393). -/

namespace Sys2Proof.Machine

/-! ### Exact rationals -/

section
variable {x y : Exact}

theorem Exact.toRat_add (hx : 0 < x.den) (hy : 0 < y.den) : (x.add y).toRat = x.toRat + y.toRat := by
  have hx' : (x.den : ℚ) ≠ 0 := by exact_mod_cast hx.ne'
  have hy' : (y.den : ℚ) ≠ 0 := by exact_mod_cast hy.ne'
  simp only [Exact.toRat, Exact.add]
  push_cast
  rw [div_add_div _ _ hx' hy', mul_comm (y.num : ℚ)]

theorem Exact.toRat_mul (x y : Exact) : (x.mul y).toRat = x.toRat * y.toRat := by
  simp only [Exact.toRat, Exact.mul]
  push_cast
  rw [div_mul_div_comm]

theorem Exact.toRat_neg (x : Exact) : x.neg.toRat = -x.toRat := by
  simp only [Exact.toRat, Exact.neg]
  push_cast
  rw [neg_div]

/-- The sign of the divisor moves to the numerator. -/
theorem Exact.toRat_div (hx : 0 < x.den) (hy : 0 < y.den) (hnum : y.num ≠ 0) : (x.div y).toRat = x.toRat / y.toRat := by
  have hx' : (x.den : ℚ) ≠ 0 := by exact_mod_cast hx.ne'
  have hy' : (y.den : ℚ) ≠ 0 := by exact_mod_cast hy.ne'
  have hn' : (y.num : ℚ) ≠ 0 := by exact_mod_cast hnum
  have hsign : (y.num : ℚ) * y.num.sign = y.num.natAbs := by
    rw [Nat.cast_natAbs]
    exact_mod_cast y.num.mul_sign_self
  have habs : (y.num.natAbs : ℚ) ≠ 0 := by exact_mod_cast Int.natAbs_ne_zero.mpr hnum
  simp only [Exact.toRat, Exact.div]
  push_cast
  rw [div_div_div_eq, div_eq_div_iff (mul_ne_zero hx' habs) (mul_ne_zero hx' hn'), ← hsign]
  ring

theorem Exact.toRat_eq_zero_iff (hx : 0 < x.den) : x.toRat = 0 ↔ x.num = 0 := by
  rw [Exact.toRat, div_eq_zero_iff, or_iff_left (by exact_mod_cast hx.ne'), Int.cast_eq_zero]

/-- A term of the fused sum, negated when asked. -/
theorem Exact.signed_facts (hx : 0 < x.den) (n : Bool) :
    0 < (if n = true then x.neg else x).den ∧ (if n = true then x.neg else x).toRat = (if n then -1 else 1) * x.toRat := by
  cases n
  · simpa using hx
  · simpa [Exact.toRat_neg] using (show 0 < x.neg.den from hx)

end

/-! ### Zeros -/

section
variable {F : Fmt} {a b : F.Pattern}

theorem Fmt.finite_of_isZero (h : F.isZero a = true) : F.finite a = true := by
  have := F.class_cases a
  simp_all [Fmt.finite]

theorem Fmt.eq_zero (h : F.isZero a = true) : a = F.zero (F.sign a) := by
  obtain ⟨hexp, hfrac⟩ : F.expField a = 0 ∧ F.frac a = 0 := by simpa [Fmt.isZero] using h
  rw [Fmt.zero]
  nth_rw 1 [← F.mk_fields a, hexp, hfrac]

theorem Fmt.isZero_of_isInf (h : F.isInf a = true) : F.isZero a = false := by
  have := F.class_cases a
  simp_all

theorem Fmt.significand_eq_zero_iff : F.significand a = 0 ↔ F.isZero a = true := by
  by_cases h : F.expField a = 0 <;> simp [Fmt.significand, Fmt.isZero, h]

theorem Fmt.ratValue_eq_zero_iff : F.ratValue a = 0 ↔ F.isZero a = true := by
  have : (2 : ℚ) ^ F.exponent a ≠ 0 := (zpow_pos two_pos _).ne'
  rw [F.ratValue_eq, ← Fmt.significand_eq_zero_iff]
  cases F.sign a <;> simp [signFactor, this]

theorem Fmt.value_num_ne_zero (h : F.isZero a = false) : (F.value a).num ≠ 0 := by
  rw [Ne, ← Exact.toRat_eq_zero_iff (F.value_den_pos a), ← Fmt.ratValue, Fmt.ratValue_eq_zero_iff, h]
  exact Bool.false_ne_true

end

theorem cancelSign_eq (m : FpArithMode) (rm : RoundingMode) : cancelSign m rm = decide (m = .ieeeFull ∧ rm = .rdn) := by
  cases m <;> simp [cancelSign]

theorem roundSum_eq (F : Fmt) (m : FpArithMode) (rm : RoundingMode) {x : Exact} (hx : 0 < x.den) :
    roundSum F m rm x =
      if x.toRat = 0 then (F.zero (decide (m = .ieeeFull ∧ rm = .rdn)), Flags.none) else arithRound F m rm x := by
  rw [roundSum, cancelSign_eq, if_congr (Exact.toRat_eq_zero_iff hx).symm rfl rfl]

/-! ### The primitives -/

/-- Settles O39, case by case of `fadd`. -/
theorem addition : Obligations.Addition := by
  unfold Obligations.Addition
  intro F m rm a b cancel
  refine ⟨fun h => ?_, fun ha hb hs => ?_, fun ha hb => ?_, fun hb ha => ?_, fun ha hb => ?_, fun ha hb hz => ?_, rfl, ?_⟩
  · rw [fadd, if_pos h]
    rfl
  · simp [fadd, Fmt.isNan_of_isInf ha, Fmt.isNan_of_isInf hb, ha, hb, hs]
  · rcases hb with hb | rfl
    · rw [Fmt.finite_iff] at hb
      simp [fadd, Fmt.isNan_of_isInf ha, ha, hb, ← Fmt.eq_inf ha, Flags.none]
    · simp [fadd, Fmt.isNan_of_isInf ha, ha, ← Fmt.eq_inf ha, Flags.none]
  · rw [Fmt.finite_iff] at ha
    simp [fadd, Fmt.isNan_of_isInf hb, ha, hb, ← Fmt.eq_inf hb, Flags.none]
  · have hfa := Fmt.finite_iff.mp (Fmt.finite_of_isZero ha)
    have hfb := Fmt.finite_iff.mp (Fmt.finite_of_isZero hb)
    by_cases hs : F.sign a = F.sign b
    · simp [fadd, hfa, hfb, ha, hb, hs, Flags.none, hs ▸ (Fmt.eq_zero ha).symm]
    · simp [fadd, hfa, hfb, ha, hb, hs, Flags.none, cancelSign_eq, cancel]
  · rw [Fmt.finite_iff] at ha hb
    refine ⟨(F.value a).add (F.value b), Nat.mul_pos (F.value_den_pos a) (F.value_den_pos b),
      Exact.toRat_add (F.value_den_pos a) (F.value_den_pos b), ?_⟩
    rw [← roundSum_eq F m rm (Nat.mul_pos (F.value_den_pos a) (F.value_den_pos b))]
    simp [fadd, ha, hb, hz]
  · exact congrArg (b ^^^ ·) (by cases F <;> decide)

/-- Settles O40, case by case of `fmul`. -/
theorem multiplication : Obligations.Multiplication := by
  unfold Obligations.Multiplication
  intro F m rm a b s
  refine ⟨fun h => ?_, fun h => ?_, fun ha hb hza hzb h => ?_, fun ha hb h => ?_, fun ha hb hza hzb => ?_⟩
  · rw [fmul, if_pos h]
    rfl
  · have hnan : (F.isNan a || F.isNan b) = false := by
      simp only [Bool.or_eq_true, Bool.and_eq_true] at h
      rcases h with ⟨hz, hi⟩ | ⟨hi, hz⟩ <;>
        simp [Fmt.isNan_of_isInf hi, (Fmt.finite_iff.mp (Fmt.finite_of_isZero hz)).1]
    rw [fmul, hnan]
    simp [h]
  · simp [fmul, ha, hb, hza, hzb, h, s, Flags.none]
  · rw [Fmt.finite_iff] at ha hb
    simp [fmul, ha, hb, h, s, Flags.none]
  · rw [Fmt.finite_iff] at ha hb
    refine ⟨(F.value a).mul (F.value b), Nat.mul_pos (F.value_den_pos a) (F.value_den_pos b),
      mul_ne_zero (Fmt.value_num_ne_zero hza) (Fmt.value_num_ne_zero hzb), Exact.toRat_mul _ _, ?_⟩
    simp [fmul, ha, hb, hza, hzb]

/-- Settles O41, case by case of `fdiv`. -/
theorem division : Obligations.Division := by
  unfold Obligations.Division
  intro F m rm a b s
  refine ⟨fun h => ?_, fun h => ?_, fun ha hb => ?_, fun ha hb => ?_, fun ha hza hzb => ?_, fun hza hb hzb => ?_,
    fun ha hb hza hzb => ?_⟩
  · rw [fdiv, if_pos h]
    rfl
  · have hnan : (F.isNan a || F.isNan b) = false := by
      simp only [Bool.or_eq_true, Bool.and_eq_true] at h
      rcases h with ⟨ha, hb⟩ | ⟨ha, hb⟩
      · simp [Fmt.isNan_of_isInf ha, Fmt.isNan_of_isInf hb]
      · simp [(Fmt.finite_iff.mp (Fmt.finite_of_isZero ha)).1, (Fmt.finite_iff.mp (Fmt.finite_of_isZero hb)).1]
    rw [fdiv, hnan]
    simp [h]
  · rw [Fmt.finite_iff] at hb
    simp [fdiv, Fmt.isNan_of_isInf ha, Fmt.isZero_of_isInf ha, ha, hb, s, Flags.none]
  · rw [Fmt.finite_iff] at ha
    simp [fdiv, Fmt.isNan_of_isInf hb, Fmt.isZero_of_isInf hb, ha, hb, s, Flags.none]
  · have hb := Fmt.finite_iff.mp (Fmt.finite_of_isZero hzb)
    rw [Fmt.finite_iff] at ha
    simp [fdiv, ha, hb, hza, hzb, s]
  · have ha := Fmt.finite_iff.mp (Fmt.finite_of_isZero hza)
    rw [Fmt.finite_iff] at hb
    simp [fdiv, ha, hb, hza, hzb, s, Flags.none]
  · rw [Fmt.finite_iff] at ha hb
    have hnb := Fmt.value_num_ne_zero hzb
    have hdb : ((F.value b).den : Int) ≠ 0 := by exact_mod_cast (F.value_den_pos b).ne'
    refine ⟨(F.value a).div (F.value b), Nat.mul_pos (F.value_den_pos a) (Int.natAbs_pos.mpr hnb),
      mul_ne_zero (mul_ne_zero (Fmt.value_num_ne_zero hza) hdb) (mt Int.sign_eq_zero_iff_zero.mp hnb),
      Exact.toRat_div (F.value_den_pos a) (F.value_den_pos b) hnb, ?_⟩
    simp [fdiv, ha, hb, hza, hzb]

/-- Settles O43, case by case of `fma`. -/
theorem fusedMultiplyAdd : Obligations.FusedMultiplyAdd := by
  unfold Obligations.FusedMultiplyAdd
  intro F m rm a b c np nc cancel sp sc r
  refine ⟨fun h => ?_, fun h hnan => ?_, fun ha hb hza hzb hi hc => ?_, fun ha hb hc => ?_, fun ha hb h hc => ?_,
    fun ha hb hc h => ?_⟩
  · exact if_pos h
  · simp only [r, fma, h, hnan, Bool.false_eq_true, if_false, if_true]
    rfl
  · simp only [r, fma, ha, hb, hza, hzb, hi, hc, Bool.false_and, Bool.and_false, Bool.or_self, Bool.false_eq_true, if_false,
      if_true, Bool.and_eq_true, bne_iff_ne]
    rfl
  · rw [Fmt.finite_iff] at ha hb
    simp [r, fma, ha, hb, hc, Fmt.isNan_of_isInf hc, sc, Flags.none]
  · have hfc := Fmt.finite_iff.mp (Fmt.finite_of_isZero hc)
    rw [Fmt.finite_iff] at ha hb
    simp only [r, fma, ha, hb, h, hc, hfc, sp, sc, Flags.none, cancelSign_eq, cancel, apply_ite F.zero]
    simp
  · rw [Fmt.finite_iff] at ha hb hc
    obtain ⟨hpd, hp⟩ := Exact.signed_facts (x := (F.value a).mul (F.value b))
      (Nat.mul_pos (F.value_den_pos a) (F.value_den_pos b)) np
    obtain ⟨hcd, hcv⟩ := Exact.signed_facts (F.value_den_pos c) nc
    refine ⟨Exact.add _ _, Nat.mul_pos hpd hcd, ?_, ?_⟩
    · exact (Exact.toRat_add hpd hcd).trans (by rw [hp, hcv, Exact.toRat_mul]; rfl)
    · rw [← roundSum_eq F m rm (x := Exact.add _ _) (Nat.mul_pos hpd hcd)]
      simp [r, fma, ha, hb, hc, h]

/-! ### Minimum and maximum -/

section
variable {F : Fmt} {a b : F.Pattern}

/-- The order of the numbers is asymmetric. -/
theorem Fmt.valueLt_asymm (hna : F.isNan a = false) (hnb : F.isNan b = false) (h : F.valueLt a b = true) :
    F.valueLt b a = false := by
  cases hia : F.isInf a <;> cases hib : F.isInf b
  · have ha := Fmt.finite_iff.mpr ⟨hna, hia⟩
    have hb := Fmt.finite_iff.mpr ⟨hnb, hib⟩
    rw [Fmt.valueLt_of_finite ha hb, decide_eq_true_eq] at h
    rw [Fmt.valueLt_of_finite hb ha, decide_eq_false_iff_not]
    exact h.asymm
  · rw [Fmt.valueLt_of_finite_inf hia hib] at h
    rw [Fmt.valueLt_of_inf_finite hib hia]
    simpa using h
  · rw [Fmt.valueLt_of_inf_finite hia hib] at h
    rw [Fmt.valueLt_of_finite_inf hib hia]
    simpa using h
  · rw [Fmt.valueLt_of_inf hia hib] at h
    rw [Fmt.valueLt_of_inf hib hia]
    simp_all

/-- Of zeros none is below the other. -/
theorem Fmt.valueLt_of_isZero (ha : F.isZero a = true) (hb : F.isZero b = true) : F.valueLt a b = false := by
  rw [Fmt.valueLt_of_finite (Fmt.finite_of_isZero ha) (Fmt.finite_of_isZero hb), Fmt.ratValue_eq_zero_iff.mpr ha,
    Fmt.ratValue_eq_zero_iff.mpr hb]
  simp

/-- Of numbers that are not zeros of different signs, `fmin` and `fmax` choose by the order. -/
theorem minMax_of_not_nan (hna : F.isNan a = false) (hnb : F.isNan b = false)
    (hz : (F.isZero a && F.isZero b && F.sign a != F.sign b) = false) :
    fmin F a b = (if F.valueLt b a then b else a, 0) ∧ fmax F a b = (if F.valueLt a b then b else a, 0) := by
  simp only [fmin, fmax, snanFlag2, hna, hnb, hz, Fmt.isSnan_of_not_nan, Flags.when, Flags.none, Bool.and_self, Bool.or_self,
    Bool.false_eq_true, if_false]
  constructor <;> split <;> rfl

/-- With `a` below `b`, neither is a NaN and they are no zeros of different signs. -/
theorem of_flt (h : (flt F a b).1 = true) :
    F.isNan a = false ∧ F.isNan b = false ∧ F.valueLt a b = true ∧ F.valueLt b a = false ∧
      (F.isZero a && F.isZero b) = false := by
  obtain ⟨hna, hnb⟩ : F.isNan a = false ∧ F.isNan b = false := by
    rw [← Bool.or_eq_false_iff, ← Bool.not_eq_true]
    intro hnan
    rw [(comparisons_of_nan hnan).2.1] at h
    exact Bool.false_ne_true h
  rw [(comparisons_of_not_nan hna hnb).2.1] at h
  refine ⟨hna, hnb, h, Fmt.valueLt_asymm hna hnb h, ?_⟩
  rw [← Bool.not_eq_true, Bool.and_eq_true]
  rintro ⟨hza, hzb⟩
  exact Bool.false_ne_true ((Fmt.valueLt_of_isZero hza hzb).symm.trans h)

end

/-- Settles O46: NaNs first, then zeros of different signs, then the order of the values. -/
theorem minimumMaximum : Obligations.MinimumMaximum := by
  unfold Obligations.MinimumMaximum
  intro F a b fl
  refine ⟨fun ha hb => ?_, fun ha hb => ?_, fun ha hb => ?_, fun ha hb hs => ?_, fun h => ?_, fun h => ?_, fun ha => ?_⟩
  · simp only [fmin, fmax, ha, hb, Bool.and_self, if_true]
    exact ⟨rfl, rfl⟩
  · simp only [fmin, fmax, ha, hb, Bool.and_false, Bool.false_eq_true, if_false, if_true]
    exact ⟨rfl, rfl⟩
  · simp only [fmin, fmax, ha, hb, Bool.false_and, Bool.false_eq_true, if_false, if_true]
    exact ⟨rfl, rfl⟩
  · have hna := (Fmt.finite_iff.mp (Fmt.finite_of_isZero ha)).1
    have hnb := (Fmt.finite_iff.mp (Fmt.finite_of_isZero hb)).1
    simp [fmin, fmax, ha, hb, hna, hnb, hs, snanFlag2, Flags.when, Flags.none, Fmt.isSnan_of_not_nan]
  · obtain ⟨hna, hnb, hlt, hgt, hz⟩ := of_flt h
    simpa [hlt, hgt] using minMax_of_not_nan hna hnb (by rw [hz, Bool.false_and])
  · obtain ⟨hnb, hna, hlt, hgt, hz⟩ := of_flt h
    simpa [hlt, hgt] using minMax_of_not_nan hna hnb (by rw [Bool.and_comm (F.isZero a), hz, Bool.false_and])
  · simpa using minMax_of_not_nan ha ha (by simp)

end Sys2Proof.Machine
end


section
/-! PROOFS. Conversions: to an integer, by clamping the rounded value, and between the formats, where a representable value is
rounded to itself (spec/45_fp_primitives.md rules R386, R388). -/

namespace Sys2Proof.Machine

/-! ### Float to integer -/

/-- An integer of the range of `N` bits is kept. -/
theorem int_ofInt {N : Nat} (hN : 0 < N) (signed : Bool) {v : Int} (hlo : intMin N signed ≤ v) (hhi : v ≤ intMax N signed) :
    (if signed then (BitVec.ofInt N v).toInt else ((BitVec.ofInt N v).toNat : Int)) = v := by
  cases signed
  · simp only [intMin, intMax, Bool.false_eq_true, if_false] at hlo hhi ⊢
    rw [natCast_toNat_ofInt, Int.emod_eq_of_lt hlo (by omega)]
  · simp only [intMin, intMax, if_true] at hlo hhi ⊢
    exact BitVec.toInt_ofInt_eq_self hN hlo (by omega)

theorem intMin_le_intMax (N : Nat) (signed : Bool) : intMin N signed ≤ intMax N signed := by
  have h (k : Nat) : (0 : Int) < 2 ^ k := by positivity
  have := h N
  have := h (N - 1)
  cases signed <;> simp only [intMin, intMax, if_true, if_false, Bool.false_eq_true] <;> omega

/-- The exactness test of the model is equality of the values. -/
theorem mul_den_eq_num_iff {x : Exact} (hx : 0 < x.den) (r : Int) : r * x.den = x.num ↔ (r : ℚ) = x.toRat := by
  rw [Exact.toRat, eq_div_iff (by exact_mod_cast hx.ne')]
  norm_cast

/-- Settles O44: the three outcomes of `f2i`, each in the range. -/
theorem floatToIntClamps : Obligations.FloatToIntClamps := by
  unfold Obligations.FloatToIntClamps
  intro F rm a N signed hN lo hi int p r
  have hpos : 0 < N := by omega
  have hle : lo ≤ hi := intMin_le_intMax N signed
  have hint {v : Int} (h1 : lo ≤ v) (h2 : v ≤ hi) : int (BitVec.ofInt N v) = v := int_ofInt hpos signed h1 h2
  refine ⟨fun h => ?_, fun ha hs => ?_, fun ha => ?_⟩
  · have hp : p = (BitVec.ofInt N hi, Flags.nv) := if_pos (by simpa using h)
    rw [hp]
    exact ⟨hint hle le_rfl, rfl⟩
  · have hp : p = (BitVec.ofInt N lo, Flags.nv) := by
      simp only [p, f2i, Fmt.isNan_of_isInf ha, ha, hs, Bool.not_true, Bool.and_false, Bool.or_self, Bool.false_eq_true,
        if_false, if_true]
      rfl
    rw [hp]
    exact ⟨hint le_rfl hle, rfl⟩
  · obtain ⟨hnan, hinf⟩ := Fmt.finite_iff.mp ha
    have hp : p = if hi < r then (BitVec.ofInt N hi, Flags.nv ||| Flags.of)
        else if r < lo then (BitVec.ofInt N lo, Flags.nv ||| Flags.of)
        else (BitVec.ofInt N r, Flags.when (decide (r * (F.value a).den ≠ (F.value a).num)) Flags.nx) := by
      simp only [p, f2i, hnan, hinf, Bool.false_and, Bool.or_self, Bool.false_eq_true, if_false]
      rfl
    rw [hp]
    rcases lt_or_ge hi r with hgt | hnot
    · rw [if_pos hgt, min_eq_left hgt.le, max_eq_right hle, if_pos (Or.inr hgt)]
      exact ⟨hint hle le_rfl, rfl⟩
    · rw [if_neg hnot.not_gt, min_eq_right hnot]
      rcases lt_or_ge r lo with hlt | hge
      · rw [if_pos hlt, max_eq_left hlt.le, if_pos (Or.inl hlt)]
        exact ⟨hint le_rfl hle, rfl⟩
      · rw [if_neg hge.not_gt, max_eq_right hge, if_neg (not_or.mpr ⟨hge.not_gt, hnot.not_gt⟩)]
        refine ⟨hint hge hnot, ?_⟩
        have hexact : r * (F.value a).den = (F.value a).num ↔ (r : ℚ) = F.ratValue a :=
          mul_den_eq_num_iff (F.value_den_pos a) r
        by_cases h : (r : ℚ) = F.ratValue a
        · simp [Flags.when, Flags.none, hexact, h]
        · simp [Flags.when, hexact, h]

/-! ### Representable values -/

/-- A power of two is a multiple of a smaller one. -/
theorem two_zpow_eq_mul {a b : Int} (h : b ≤ a) : (2 : ℚ) ^ a = (2 ^ (a - b).toNat : Nat) * 2 ^ b := by
  push_cast
  rw [← zpow_natCast, ← zpow_add₀ two_ne_zero, Int.toNat_of_nonneg (sub_nonneg.mpr h), sub_add_cancel]

/-- A value that is a multiple of the scale is quantized to itself. -/
theorem quantize_of_multiple (rm : RoundingMode) (neg : Bool) {n d m : Nat} (hd : 0 < d) {q : Int}
    (h : (n : ℚ) / d = m * 2 ^ q) : quantize rm neg n d q = m ∧ inexactAt n d q = false := by
  have hscaled : ((n * 2 ^ (-q).toNat : Nat) : ℚ) / (d * 2 ^ q.toNat : Nat) = m := by
    rw [cast_scaled_div, h, mul_div_cancel_right₀ _ (zpow_pos two_pos q).ne']
  have hmul : n * 2 ^ (-q).toNat = m * (d * 2 ^ q.toNat) := by
    rw [div_eq_iff (by positivity)] at hscaled
    exact_mod_cast hscaled
  have hexact : inexactAt n d q = false := by simp [inexactAt, hmul]
  have heq := (quantize_mul_eq_iff rm neg hd q).mpr hexact
  rw [h, mul_left_inj' (zpow_pos two_pos q).ne'] at heq
  exact ⟨by exact_mod_cast heq, hexact⟩

section
variable {F : Fmt} (rm : RoundingMode) {x : Exact} {e : Int} {m : Nat} (hx : 0 < x.den) (hlo : (2 : ℚ) ^ e ≤ |x.toRat|)
  (hhi : |x.toRat| < 2 ^ (e + 1)) (hrange : |x.toRat| < 2 ^ (F.emax + 1)) (hm : |x.toRat| = m * 2 ^ F.lastBit e)
include hx hlo hhi hrange hm

/-- A value with a significand at the scale of its exponent is delivered with that significand, exactly. -/
theorem roundF_of_multiple : roundF F rm x = (F.mk (decide (x.num < 0)) (F.fieldBelow e) m, Flags.none) := by
  have hnum : 0 < x.num.natAbs := by
    rw [Int.natAbs_pos, Ne, ← Exact.toRat_eq_zero_iff hx, ← abs_eq_zero]
    exact ((zpow_pos two_pos e).trans_le hlo).ne'
  have hmul := hm
  rw [x.abs_toRat] at hlo hhi hmul
  obtain ⟨hq, hexact⟩ := quantize_of_multiple rm (decide (x.num < 0)) hx hmul
  rw [roundF_of_in_range F rm (floorLog2_eq hnum hx hlo hhi) (by rwa [roundedMag, hq, ← hm]), hq, if_pos hexact]

/-- The pattern delivered denotes the value. -/
theorem denotes_roundF_of_multiple : F.Denotes (roundF F rm x).1 (decide (x.num < 0)) |x.toRat| := by
  rw [roundF_of_multiple rm hx hlo hhi hrange hm]
  have hmul := hm
  rw [x.abs_toRat] at hlo hhi hmul
  obtain ⟨hq, -⟩ := quantize_of_multiple rm (decide (x.num < 0)) hx hmul
  rw [hm, F.lastBit_eq] at hrange ⊢
  rw [← hq]
  exact F.denotes_mk _ (normal_quantize_lastBit F rm _ hx hlo) (quantize_lastBit_le F rm _ hx hhi) (by rwa [hq])

end

section
variable {F : Fmt} {a : F.Pattern}

/-- The magnitude of a finite pattern. -/
theorem Fmt.abs_ratValue (a : F.Pattern) : |F.ratValue a| = F.significand a * 2 ^ F.exponent a := by
  rw [F.ratValue_eq, abs_signFactor_mul, abs_of_nonneg (by positivity)]

theorem Fmt.expField_lt_of_finite (ha : F.finite a = true) : F.expField a < F.expMax := by
  have hle : F.expField a ≤ F.expMax := Nat.le_sub_one_of_lt (Nat.mod_lt _ (by positivity))
  refine lt_of_le_of_ne hle fun h => ?_
  by_cases hf : F.frac a = 0 <;> simp [Fmt.finite, Fmt.isNan, Fmt.isInf, h, hf] at ha

theorem Fmt.significand_lt (a : F.Pattern) : F.significand a < 2 * 2 ^ F.fracBits := by
  have := F.frac_lt a
  unfold Fmt.significand
  split <;> omega

theorem Fmt.emin_le_emax (F : Fmt) : F.emin ≤ F.emax := by cases F <;> decide

theorem Fmt.expMax_eq (F : Fmt) : F.expMax = 2 * F.bias + 1 := by cases F <;> decide

/-- A finite pattern is its significand at a scale: that of its exponent `e`, and the fields are those `roundF` makes of
them. -/
structure Fmt.HasExponent (F : Fmt) (a : F.Pattern) (e : Int) : Prop where
  le : (2 : ℚ) ^ e ≤ |F.ratValue a|
  lt : |F.ratValue a| < 2 ^ (e + 1)
  range : e ≤ F.emax
  scale : F.lastBit e = F.exponent a
  fields : F.mk (F.sign a) (F.fieldBelow e) (F.significand a) = a

theorem Fmt.hasExponent_of_subnormal (h0 : F.expField a = 0) (hz : F.isZero a = false) : ∃ e, F.HasExponent a e := by
  have hnum : 0 < (F.value a).num.natAbs := Int.natAbs_pos.mpr (Fmt.value_num_ne_zero hz)
  obtain ⟨hlo, hhi⟩ := floorLog2_spec hnum (F.value_den_pos a)
  rw [← Exact.abs_toRat, ← Fmt.ratValue] at hlo hhi
  have hsig : F.significand a = F.frac a := if_pos h0
  have hexp : F.exponent a = F.emin - F.fracBits := by rw [Fmt.exponent, if_pos h0]
  have hsmall : |F.ratValue a| < 2 ^ F.emin := by
    rw [Fmt.abs_ratValue, hsig, hexp, ← two_pow_mul_zpow F.fracBits F.emin]
    exact mul_lt_mul_of_pos_right (by exact_mod_cast F.frac_lt a) (zpow_pos two_pos _)
  have he := two_zpow_lt_iff.mp (hlo.trans_lt hsmall)
  have hscale : F.lastBit (floorLog2 (F.value a).num.natAbs (F.value a).den) = F.emin - F.fracBits := by
    rw [Fmt.lastBit, max_eq_right he.le]
  refine ⟨_, hlo, hhi, he.le.trans F.emin_le_emax, hscale.trans hexp.symm, ?_⟩
  have hfield : F.fieldBelow (floorLog2 (F.value a).num.natAbs (F.value a).den) = F.expField a := by
    rw [Fmt.fieldBelow, hscale, sub_self, h0]
    rfl
  rw [hfield, hsig, F.mk_fields]

theorem Fmt.hasExponent_of_normal (h0 : F.expField a ≠ 0) (ha : F.finite a = true) : ∃ e, F.HasExponent a e := by
  have hmax := Fmt.expField_lt_of_finite ha
  have hbias := F.expMax_eq
  have hsig : F.significand a = 2 ^ F.fracBits + F.frac a := if_neg h0
  have hexp : F.exponent a = F.expField a - F.bias - F.fracBits := by rw [Fmt.exponent, if_neg h0]
  have hscale : F.lastBit (F.expField a - F.bias) = F.expField a - F.bias - F.fracBits := by
    rw [Fmt.lastBit, Fmt.emin]
    omega
  have hlo := two_pow_mul_zpow F.fracBits (F.expField a - F.bias)
  refine ⟨F.expField a - F.bias, ?_, ?_, ?_, hscale.trans hexp.symm, ?_⟩
  · rw [Fmt.abs_ratValue, hexp, hsig, ← hlo]
    gcongr
    exact_mod_cast Nat.le_add_right _ _
  · rw [Fmt.abs_ratValue, hexp, zpow_add_one₀ two_ne_zero, ← hlo, mul_right_comm]
    gcongr
    rw [mul_comm]
    exact_mod_cast Fmt.significand_lt a
  · rw [Fmt.emax]
    omega
  · have hfield : F.fieldBelow (F.expField a - F.bias) + 1 = F.expField a := by
      rw [Fmt.fieldBelow, hscale, Fmt.emin]
      omega
    rw [F.mk_carry _ _ (by omega), hfield, hsig, Nat.add_sub_cancel_left, F.mk_fields]

theorem Fmt.exists_hasExponent (ha : F.finite a = true) (hz : F.isZero a = false) : ∃ e, F.HasExponent a e := by
  by_cases h0 : F.expField a = 0
  · exact Fmt.hasExponent_of_subnormal h0 hz
  · exact Fmt.hasExponent_of_normal h0 ha

theorem Fmt.HasExponent.in_range {e : Int} (h : F.HasExponent a e) : |F.ratValue a| < 2 ^ (F.emax + 1) :=
  h.lt.trans_le (two_zpow_le_iff.mpr (by have := h.range; omega))

/-- A negative value is one with the sign bit set. -/
theorem num_neg_iff_sign (hz : F.isZero a = false) {x : Exact} (hx : 0 < x.den) (hv : x.toRat = F.ratValue a) :
    decide (x.num < 0) = F.sign a := by
  have hpos : 0 < |F.ratValue a| := abs_pos.mpr (Fmt.ratValue_eq_zero_iff.not.mpr (by simp [hz]))
  have hneg : x.num < 0 ↔ F.ratValue a < 0 := by
    rw [← not_le, ← Exact.toRat_nonneg_iff hx, hv, not_le]
  rw [Fmt.abs_ratValue] at hpos
  rw [Bool.eq_iff_iff, decide_eq_true_iff, hneg, F.ratValue_eq]
  cases F.sign a <;> simp [signFactor, hpos, hpos.le]

/-- A value of the format is rounded to its pattern, in every mode and without a flag. -/
theorem roundF_of_ratValue (rm : RoundingMode) (ha : F.finite a = true) (hz : F.isZero a = false) {x : Exact} (hx : 0 < x.den)
    (hv : x.toRat = F.ratValue a) : roundF F rm x = (a, Flags.none) := by
  obtain ⟨e, h⟩ := Fmt.exists_hasExponent ha hz
  rw [roundF_of_multiple rm hx (hv ▸ h.le) (hv ▸ h.lt) (hv ▸ h.in_range) (by rw [hv, Fmt.abs_ratValue, h.scale]),
    num_neg_iff_sign hz hx hv, h.fields]

end

/-! ### Between the formats -/

/-- A single value is a double value: it has a significand at the scale of the double format. -/
theorem denotes_double {a : Fmt.s.Pattern} (rm : RoundingMode) (ha : Fmt.s.finite a = true) (hz : Fmt.s.isZero a = false) :
    Fmt.d.Denotes (roundF .d rm (Fmt.s.value a)).1 (Fmt.s.sign a) |Fmt.s.ratValue a| := by
  obtain ⟨e, h⟩ := Fmt.exists_hasExponent ha hz
  have hscale : Fmt.d.lastBit e ≤ Fmt.s.exponent a := by
    rw [← h.scale]
    simp only [Fmt.lastBit, Fmt.emin, Fmt.bias, Fmt.expBits, Fmt.fracBits]
    omega
  have hm : |(Fmt.s.value a).toRat| =
      (Fmt.s.significand a * 2 ^ (Fmt.s.exponent a - Fmt.d.lastBit e).toNat : Nat) * 2 ^ Fmt.d.lastBit e := by
    rw [← Fmt.ratValue, Fmt.abs_ratValue, two_zpow_eq_mul hscale, Nat.cast_mul, mul_assoc]
  have hrange : |(Fmt.s.value a).toRat| < 2 ^ (Fmt.d.emax + 1) :=
    h.in_range.trans_le (two_zpow_le_iff.mpr (by decide))
  rw [← num_neg_iff_sign hz (Fmt.s.value_den_pos a) rfl]
  exact denotes_roundF_of_multiple rm (Fmt.s.value_den_pos a) h.le h.lt hrange hm

/-- `f2fStoD` on a finite number that is no zero. -/
theorem f2fStoD_of_nonzero {a : Fmt.s.Pattern} (ha : Fmt.s.finite a = true) (hz : Fmt.s.isZero a = false) :
    f2fStoD a = ((roundF .d .rne (Fmt.s.value a)).1, Flags.none) := by
  obtain ⟨hnan, hinf⟩ := Fmt.finite_iff.mp ha
  simp [f2fStoD, hnan, hinf, hz]

theorem f2fDtoS_of_nonzero (m : FpArithMode) (rm : RoundingMode) {b : Fmt.d.Pattern} (hb : Fmt.d.finite b = true)
    (hz : Fmt.d.isZero b = false) : f2fDtoS m rm b = arithRound .s m rm (Fmt.d.value b) := by
  obtain ⟨hnan, hinf⟩ := Fmt.finite_iff.mp hb
  simp [f2fDtoS, hnan, hinf, hz]

theorem f2fDtoS_of_isZero (m : FpArithMode) (rm : RoundingMode) {b : Fmt.d.Pattern} (hz : Fmt.d.isZero b = true) :
    f2fDtoS m rm b = (Fmt.s.zero (Fmt.d.sign b), 0) := by
  obtain ⟨hnan, hinf⟩ := Fmt.finite_iff.mp (Fmt.finite_of_isZero hz)
  simp [f2fDtoS, hnan, hinf, hz, Flags.none]

theorem arithRound_of_ratValue {F : Fmt} {a : F.Pattern} (m : FpArithMode) (rm : RoundingMode) (ha : F.finite a = true)
    (hz : F.isZero a = false) {x : Exact} (hx : 0 < x.den) (hv : x.toRat = F.ratValue a) : arithRound F m rm x = (a, 0) := by
  cases m
  · exact roundF_of_ratValue rm ha hz hx hv
  · rw [arithRound, roundF_of_ratValue .rne ha hz hx hv]
    rfl

theorem Fmt.isZero_zero (F : Fmt) (s : Bool) : F.isZero (F.zero s) = true ∧ F.sign (F.zero s) = s := by
  cases F <;> cases s <;> decide

/-- A finite single is a double of the same value and sign, and is read back from it. -/
theorem f2fStoD_of_finite (m : FpArithMode) (rm : RoundingMode) {a : Fmt.s.Pattern} (ha : Fmt.s.finite a = true) :
    Fmt.d.finite (f2fStoD a).1 = true ∧ Fmt.d.ratValue (f2fStoD a).1 = Fmt.s.ratValue a ∧
      Fmt.d.sign (f2fStoD a).1 = Fmt.s.sign a ∧ (f2fStoD a).2 = 0 ∧ f2fDtoS m rm (f2fStoD a).1 = (a, 0) := by
  obtain ⟨hnan, hinf⟩ := Fmt.finite_iff.mp ha
  cases hz : Fmt.s.isZero a
  case true =>
    obtain ⟨hzero, hsign⟩ := Fmt.d.isZero_zero (Fmt.s.sign a)
    have hd : f2fStoD a = (Fmt.d.zero (Fmt.s.sign a), 0) := by simp [f2fStoD, hnan, hinf, hz, Flags.none]
    rw [hd]
    refine ⟨Fmt.finite_of_isZero hzero, ?_, hsign, rfl, ?_⟩
    · rw [Fmt.ratValue_eq_zero_iff.mpr hzero, Fmt.ratValue_eq_zero_iff.mpr hz]
    · rw [f2fDtoS_of_isZero m rm hzero, hsign, ← Fmt.eq_zero hz]
  case false =>
    rw [f2fStoD_of_nonzero ha hz]
    obtain ⟨hfin, hsign, hval⟩ := denotes_double .rne ha hz
    have hsame : Fmt.d.ratValue (roundF .d .rne (Fmt.s.value a)).1 = Fmt.s.ratValue a := by
      rw [hval, Fmt.abs_ratValue, ← Fmt.ratValue_eq]
    have hnz : Fmt.d.isZero (roundF .d .rne (Fmt.s.value a)).1 = false := by
      rw [← Bool.not_eq_true, ← Fmt.ratValue_eq_zero_iff, hsame, Fmt.ratValue_eq_zero_iff, hz]
      exact Bool.false_ne_true
    refine ⟨hfin, hsame, hsign, rfl, ?_⟩
    rw [f2fDtoS_of_nonzero m rm hfin hnz, arithRound_of_ratValue m rm ha hz (Fmt.d.value_den_pos _) hsame]

/-- Settles O48: a single is a value of the double format, and a value of a format is rounded to itself. -/
theorem floatToFloatConversions : Obligations.FloatToFloatConversions := by
  unfold Obligations.FloatToFloatConversions
  refine ⟨fun m rm a => ⟨fun h => ?_, fun h => ?_, f2fDtoS_of_isZero m rm, f2fDtoS_of_nonzero m rm⟩,
    fun m rm a => ⟨fun h => ?_, fun h => ?_, f2fStoD_of_finite m rm⟩⟩
  · rw [f2fDtoS, if_pos h]
    rfl
  · simp [f2fDtoS, Fmt.isNan_of_isInf h, h, Flags.none]
  · rw [f2fStoD, if_pos h]
    rfl
  · simp [f2fStoD, Fmt.isNan_of_isInf h, h, Flags.none]

end Sys2Proof.Machine
end


section
/-! PROOFS. The square root (spec/45_fp_primitives.md rule R383). The number the model rounds lies on the same side of every
multiple of half a unit of the last place as the root does, so it is rounded as the root is. -/

namespace Sys2Proof.Machine

/-! ### The integer square root -/

theorem isqrtFrom_spec {n k r : Nat} (hlo : r * r ≤ n) (hhi : n < (r + 2 ^ k) * (r + 2 ^ k)) :
    isqrtFrom n k r * isqrtFrom n k r ≤ n ∧ n < (isqrtFrom n k r + 1) * (isqrtFrom n k r + 1) := by
  induction k generalizing r with
  | zero => exact ⟨hlo, hhi⟩
  | succ k ih =>
    rw [isqrtFrom]
    split
    · next h => exact ih h (by rwa [add_assoc, ← two_mul, ← Nat.pow_succ'])
    · next h => exact ih hlo (not_le.mp h)

theorem isqrt_eq (n : Nat) : isqrt n = n.sqrt := by
  have hhi : n < (0 + 2 ^ (n.log2 / 2 + 1)) * (0 + 2 ^ (n.log2 / 2 + 1)) := by
    rw [zero_add, ← pow_add]
    exact Nat.lt_log2_self.trans_le (Nat.pow_le_pow_right two_pos (by omega))
  obtain ⟨h1, h2⟩ := isqrtFrom_spec (Nat.zero_le n) hhi
  exact Nat.eq_sqrt.mpr ⟨h1, h2⟩

/-! ### A number in the place of a root -/

/-- Among the multiples of `u`, `x` is where the square root of `v` is. -/
structure RootAt (x v u : ℚ) : Prop where
  le_iff (c : Nat) : c * u ≤ x ↔ (c * u) ^ 2 ≤ v
  eq_iff (c : Nat) : c * u = x ↔ (c * u) ^ 2 = v

theorem RootAt.lt_iff {x v u : ℚ} (h : RootAt x v u) (c : Nat) : x < c * u ↔ v < (c * u) ^ 2 := by
  rw [← not_le, h.le_iff, not_le]

/-- It is so among the multiples of a larger unit. -/
theorem RootAt.coarsen {x v u : ℚ} (h : RootAt x v u) (k : Nat) : RootAt x v (k * u) where
  le_iff c := by simpa [mul_assoc] using h.le_iff (c * k)
  eq_iff c := by simpa [mul_assoc] using h.eq_iff (c * k)

/-- The integer root, with one half added when it is not exact, in the place of the root. -/
theorem rootAt_sqrt (n : Nat) {u : ℚ} (hu : 0 < u) :
    RootAt ((2 * n.sqrt + if n.sqrt * n.sqrt = n then 0 else 1 : Nat) * (u / 2)) (n * u ^ 2) u := by
  have hle (c : Nat) : (c * u) ^ 2 ≤ n * u ^ 2 ↔ c ≤ n.sqrt := by
    rw [mul_pow, mul_le_mul_iff_left₀ (by positivity), Nat.le_sqrt, ← sq]
    exact_mod_cast Iff.rfl
  have heq (c : Nat) : (c * u) ^ 2 = n * u ^ 2 ↔ c * c = n := by
    rw [mul_pow, mul_left_inj' (by positivity), ← sq]
    exact_mod_cast Iff.rfl
  have hx (d c : Nat) : (c * u ≤ d * (u / 2) ↔ 2 * c ≤ d) ∧ (c * u = d * (u / 2) ↔ 2 * c = d) := by
    have hcast : (c : ℚ) * u = (2 * c : Nat) * (u / 2) := by
      push_cast
      ring
    rw [hcast, mul_le_mul_iff_left₀ (by positivity), mul_left_inj' (by positivity)]
    exact ⟨Nat.cast_le, Nat.cast_inj⟩
  refine ⟨fun c => ?_, fun c => ?_⟩
  · rw [(hx _ c).1, hle]
    split <;> omega
  · rw [(hx _ c).2, heq]
    split
    · next h => exact ⟨fun hc => by rw [show c = n.sqrt by omega, h], fun hc => by rw [← hc, Nat.sqrt_eq, add_zero]⟩
    · next h => exact ⟨fun hc => by omega, fun hc => absurd (by rw [← hc, Nat.sqrt_eq]) h⟩

theorem two_zpow_sq (a : Int) : ((2 : ℚ) ^ a) ^ 2 = 2 ^ (2 * a) := by
  rw [mul_comm 2 a, zpow_mul]
  rfl

/-- What the model rounds for the square root of `m * 2^k`. -/
theorem sqrtExact_eq (F : Fmt) (m : Nat) (k : Int) :
    ∃ (j : Nat) (h : Int), 2 * (F.fracBits + 4) ≤ j ∧ k = 2 * h + j ∧
      sqrtExact F m k =
        Exact.scale (2 * (m * 2 ^ j).sqrt + if (m * 2 ^ j).sqrt * (m * 2 ^ j).sqrt = m * 2 ^ j then 0 else 1 : Nat)
            (h - 1) := by
  unfold sqrtExact
  simp only [isqrt_eq]
  split
  all_goals
    refine ⟨_, _, ?_, ?_, by push_cast; rfl⟩ <;> omega

theorem rootAt_sqrtExact (F : Fmt) (m : Nat) {k i : Int} (hi : k ≤ 2 * i + 2 * (F.fracBits + 4)) :
    RootAt (sqrtExact F m k).toRat (m * 2 ^ k) (2 ^ i) := by
  obtain ⟨j, h, hj, rfl, hx⟩ := sqrtExact_eq F m k
  have hroot := (rootAt_sqrt (m * 2 ^ j) (zpow_pos two_pos h)).coarsen (2 ^ (i - h).toNat)
  have hv : ((m * 2 ^ j : Nat) : ℚ) * (2 ^ h) ^ 2 = m * 2 ^ (2 * h + j) := by
    rw [zpow_add₀ two_ne_zero, ← two_zpow_sq, zpow_natCast]
    push_cast
    ring
  have hhalf : (2 : ℚ) ^ h / 2 = 2 ^ (h - 1) := by rw [zpow_sub_one₀ two_ne_zero, div_eq_mul_inv]
  rwa [← two_zpow_eq_mul (by omega), hv, hhalf, ← Int.cast_natCast, ← Exact.toRat_scale, ← hx] at hroot

/-! ### Rounding between two neighbours -/

/-- Between two integers the mode chooses by the fraction. -/
theorem rintMag_of_between (rm : RoundingMode) (neg : Bool) {n d g : Nat} (hd : 0 < d) (hlo : (g : ℚ) ≤ n / d)
    (hhi : (n : ℚ) / d < g + 1) :
    RoundsUp rm neg g (n / d - g) ∧ rintMag rm neg n d = g + 1 ∨ ¬RoundsUp rm neg g (n / d - g) ∧ rintMag rm neg n d = g := by
  obtain ⟨q, f, hy, hf0, hf1, -, hm⟩ := rintMag_cases rm neg n hd
  have h1 : (q : ℚ) < g + 1 := by linarith
  have h2 : (g : ℚ) < q + 1 := by linarith
  have hq : q = g := by
    have : q < g + 1 := by exact_mod_cast h1
    have : g < q + 1 := by exact_mod_cast h2
    omega
  subst hq
  rw [hy, add_sub_cancel_left]
  tauto

theorem quantize_of_between (rm : RoundingMode) (neg : Bool) {n d g : Nat} {q : Int} (hd : 0 < d)
    (hlo : (g : ℚ) * 2 ^ q ≤ n / d) (hhi : (n : ℚ) / d < (g + 1) * 2 ^ q) :
    RoundsUp rm neg g (n / d / 2 ^ q - g) ∧ quantize rm neg n d q = g + 1 ∨
      ¬RoundsUp rm neg g (n / d / 2 ^ q - g) ∧ quantize rm neg n d q = g := by
  have hu : (0 : ℚ) < 2 ^ q := zpow_pos two_pos q
  rw [← le_div_iff₀ hu, ← cast_scaled_div] at hlo
  rw [← div_lt_iff₀ hu, ← cast_scaled_div] at hhi
  rw [← cast_scaled_div]
  exact rintMag_of_between rm neg (by positivity) hlo hhi

/-- Of a positive number that is no tie. -/
theorem roundsUp_iff_of_ne_half (rm : RoundingMode) (g : Nat) {f : ℚ} (hf : f ≠ 1 / 2) :
    RoundsUp rm false g f ↔ ¬(f = 0 ∨ rm = .rtz ∨ rm = .rdn ∨ rm ≠ .rup ∧ f < 1 / 2) := by
  have hlt : 1 / 2 ≤ f ↔ 1 / 2 < f := ⟨fun h => lt_of_le_of_ne h hf.symm, le_of_lt⟩
  have hpos : 1 / 2 < f → f ≠ 0 := fun h => by linarith
  cases rm <;> simp [RoundsUp] <;> grind

/-- The sign and magnitude of a positive number. -/
theorem Exact.of_toRat_pos {x : Exact} (hx : 0 < x.den) (h : 0 < x.toRat) :
    decide (x.num < 0) = false ∧ 0 < x.num.natAbs ∧ (x.num.natAbs : ℚ) / x.den = x.toRat := by
  have hnum := (Exact.toRat_nonneg_iff hx).mp h.le
  have hne := (Exact.toRat_eq_zero_iff hx).not.mp h.ne'
  exact ⟨decide_eq_false hnum.not_gt, Int.natAbs_pos.mpr hne, by rw [← x.abs_toRat, abs_of_pos h]⟩

section
variable {F : Fmt} {x : Exact} {e : Int} {g : Nat}
  (hlo : (2 : ℚ) ^ e ≤ x.toRat) (hhi : x.toRat < 2 ^ (e + 1))
  (hg : g * 2 ^ (e - F.fracBits) ≤ x.toRat) (hg' : x.toRat < (g + 1) * 2 ^ (e - F.fracBits))
include hlo hhi hg hg'

/-- The significand of a normal number has its leading 1. -/
theorem significand_bounds : 2 ^ F.fracBits ≤ g ∧ g < 2 * 2 ^ F.fracBits := by
  have hu : (0 : ℚ) < 2 ^ (e - F.fracBits) := zpow_pos two_pos _
  have h1 := hlo.trans_lt hg'
  have h2 := hg.trans_lt hhi
  rw [← two_pow_mul_zpow F.fracBits e, mul_lt_mul_iff_left₀ hu] at h1
  rw [zpow_add_one₀ two_ne_zero, ← two_pow_mul_zpow F.fracBits e, mul_right_comm, mul_lt_mul_iff_left₀ hu, mul_comm] at h2
  have h1' : 2 ^ F.fracBits < g + 1 := by exact_mod_cast h1
  exact ⟨Nat.le_of_lt_succ h1', by exact_mod_cast h2⟩

/-- The two neighbours are patterns of the format, one after the other. -/
theorem denotes_neighbours (hmin : F.emin ≤ e) (hmax : e < F.emax) :
    F.Denotes (F.mk false (F.fieldBelow e) g) false (g * 2 ^ (e - F.fracBits)) ∧
      F.Denotes (F.mk false (F.fieldBelow e) (g + 1)) false ((g + 1 : Nat) * 2 ^ (e - F.fracBits)) := by
  obtain ⟨hge, hlt⟩ := significand_bounds hlo hhi hg hg'
  have hscale : e - F.fracBits = F.fieldBelow e + F.emin - F.fracBits := by
    rw [← F.lastBit_eq, Fmt.lastBit, max_eq_left hmin]
  have hrange {c : Nat} (hc : c ≤ 2 * 2 ^ F.fracBits) : (c : ℚ) * 2 ^ (e - F.fracBits) < 2 ^ (F.emax + 1) := by
    calc (c : ℚ) * 2 ^ (e - F.fracBits) ≤ (2 * 2 ^ F.fracBits : Nat) * 2 ^ (e - F.fracBits) := by gcongr
      _ = 2 ^ (e + 1) := by
        push_cast
        rw [mul_assoc, two_pow_mul_zpow, zpow_add_one₀ two_ne_zero, mul_comm]
      _ < 2 ^ (F.emax + 1) := two_zpow_lt_iff.mpr (by omega)
  rw [hscale] at hrange ⊢
  exact ⟨F.denotes_mk false (.inr hge) hlt.le (hrange hlt.le), F.denotes_mk false (.inr (by omega)) hlt (hrange hlt)⟩

/-- `roundF` of a positive normal number away from overflow takes one of its neighbours. -/
theorem roundF_of_normal (rm : RoundingMode) (hx : 0 < x.den) (hmin : F.emin ≤ e) (hmax : e < F.emax) :
    ∃ c, (RoundsUp rm false g (x.toRat / 2 ^ (e - F.fracBits) - g) ∧ c = g + 1 ∨
        ¬RoundsUp rm false g (x.toRat / 2 ^ (e - F.fracBits) - g) ∧ c = g) ∧
      roundF F rm x =
        (F.mk false (F.fieldBelow e) c, if x.toRat = g * 2 ^ (e - F.fracBits) then Flags.none else Flags.nx) := by
  have hu : (0 : ℚ) < 2 ^ (e - F.fracBits) := zpow_pos two_pos _
  obtain ⟨hneg, hnum, hmag⟩ := Exact.of_toRat_pos hx ((zpow_pos two_pos e).trans_le hlo)
  have hscale : F.lastBit e = e - F.fracBits := by rw [Fmt.lastBit, max_eq_left hmin]
  have hchoice (rm : RoundingMode) :=
    quantize_of_between rm false hx (hg.trans_eq hmag.symm) (hmag.trans_lt hg')
  simp only [hmag] at hchoice
  refine ⟨_, hchoice rm, ?_⟩
  have hexact : inexactAt x.num.natAbs x.den (e - F.fracBits) = false ↔ x.toRat = g * 2 ^ (e - F.fracBits) := by
    rw [← quantize_mul_eq_iff .rtz false hx, hmag, ((hchoice .rtz).resolve_left fun h => h.1).2, eq_comm]
  have hlow : (2 : ℚ) ^ e ≤ roundedMag rm x (e - F.fracBits) := by
    have := le_quantize rm false hx (e - F.fracBits) (n := x.num.natAbs) (k := 2 ^ F.fracBits)
      (by push_cast; rwa [two_pow_mul_zpow, hmag])
    rw [roundedMag, hneg, ← two_pow_mul_zpow F.fracBits e]
    gcongr
    exact_mod_cast this
  have hhigh : roundedMag rm x (e - F.fracBits) ≤ 2 ^ (e + 1) := by
    have := quantize_lastBit_le F rm false hx (hmag.trans_lt hhi)
    rw [hscale] at this
    rw [roundedMag, hneg, zpow_add_one₀ two_ne_zero, ← two_pow_mul_zpow F.fracBits e, mul_right_comm, mul_comm _ (2 : ℚ)]
    gcongr
    exact_mod_cast this
  have hrange := hhigh.trans_lt (two_zpow_lt_iff.mpr (by omega : e + 1 < F.emax + 1))
  have hnormal := ((two_zpow_le_iff.mpr hmin).trans hlow).not_gt
  rw [roundF_of_in_range F rm (floorLog2_eq hnum hx (hmag ▸ hlo) (hmag ▸ hhi)) (by rwa [hscale]), hscale, hneg,
    if_neg hnormal, if_congr hexact rfl rfl]

end

theorem Fmt.mk_succ (F : Fmt) (s : Bool) (exp m : Nat) : F.mk s exp (m + 1) = F.mk s exp m + 1 := by
  rw [Fmt.mk, ← Nat.add_assoc, BitVec.ofNat_add]
  rfl

/-! ### The rounded root -/

/-- The square of an odd number of more bits than `m` is no multiple of `m` by a power of two. -/
theorem odd_sq_ne {c m : Nat} (hodd : c % 2 = 1) (hlt : m < c) (a b : Int) : ((c : ℚ) * 2 ^ a) ^ 2 ≠ m * 2 ^ b := by
  intro h
  rw [mul_pow, two_zpow_sq] at h
  have hb : (2 : ℚ) ^ b ≠ 0 := (zpow_pos two_pos b).ne'
  have ha : (2 : ℚ) ^ (2 * a) ≠ 0 := (zpow_pos two_pos _).ne'
  rcases le_or_gt b (2 * a) with hle | hgt
  · have hm : c ^ 2 * 2 ^ (2 * a - b).toNat = m := by
      rw [two_zpow_eq_mul hle, ← mul_assoc, mul_left_inj' hb] at h
      exact_mod_cast h
    have : c ≤ c ^ 2 * 2 ^ (2 * a - b).toNat :=
        (Nat.le_self_pow two_ne_zero c).trans (Nat.le_mul_of_pos_right _ (by positivity))
    omega
  · have hc : c ^ 2 = m * 2 ^ (b - 2 * a).toNat := by
      rw [two_zpow_eq_mul hgt.le, ← mul_assoc, mul_left_inj' ha] at h
      exact_mod_cast h
    have heven : m * 2 ^ (b - 2 * a).toNat % 2 = 0 := by
      obtain ⟨j, hj⟩ : ∃ j, (b - 2 * a).toNat = j + 1 := ⟨(b - 2 * a).toNat - 1, by omega⟩
      rw [hj, pow_succ, ← mul_assoc, Nat.mul_mod_left]
    rw [← hc, Nat.pow_mod, hodd] at heven
    exact absurd heven (by decide)

/-- `x` is in the place of the root of `v` among the multiples of half a unit of the last place, between the neighbours `g` and
`g + 1` of exponent `e`, and the root is not in their middle. -/
structure RootBetween (F : Fmt) (x : Exact) (v : ℚ) (e : Int) (g : Nat) : Prop where
  den : 0 < x.den
  min : F.emin ≤ e
  max : e < F.emax
  lo : (2 : ℚ) ^ e ≤ x.toRat
  hi : x.toRat < 2 ^ (e + 1)
  le : g * 2 ^ (e - F.fracBits) ≤ x.toRat
  lt : x.toRat < (g + 1) * 2 ^ (e - F.fracBits)
  root : RootAt x.toRat v (2 ^ (e - F.fracBits - 1))
  noTie : ((2 * g + 1 : Nat) * (2 : ℚ) ^ (e - F.fracBits - 1)) ^ 2 ≠ v

theorem sqrtExact_den_pos (F : Fmt) (m : Nat) (k : Int) : 0 < (sqrtExact F m k).den := Nat.two_pow_pos _

/-- The scale of a finite pattern is in the range of the format. -/
theorem Fmt.HasExponent.exponent_bounds {F : Fmt} {a : F.Pattern} {e : Int} (h : F.HasExponent a e) :
    F.emin - F.fracBits ≤ F.exponent a ∧ F.exponent a ≤ e := by
  have hscale := h.scale
  have hpos : 0 < F.significand a := by
    rw [Nat.pos_iff_ne_zero]
    rintro h0
    have := (zpow_pos two_pos e).trans_le h.le
    rw [Fmt.abs_ratValue, h0] at this
    simp at this
  have hle : (2 : ℚ) ^ F.exponent a ≤ |F.ratValue a| := by
    rw [Fmt.abs_ratValue]
    exact le_mul_of_one_le_left (zpow_pos two_pos _).le (by exact_mod_cast hpos)
  have := two_zpow_lt_iff.mp (hle.trans_lt h.lt)
  unfold Fmt.lastBit at hscale
  omega

/-- The number the model rounds for the square root of a positive number. -/
theorem rootBetween_sqrtExact {F : Fmt} {a : F.Pattern} (ha : F.finite a = true) (hz : F.isZero a = false)
    (hs : F.sign a = false) : ∃ e g, RootBetween F (sqrtExact F (F.significand a) (F.exponent a)) (F.ratValue a) e g := by
  obtain ⟨E, hE⟩ := Fmt.exists_hasExponent ha hz
  obtain ⟨hk, hkE⟩ := hE.exponent_bounds
  have hv : F.ratValue a = F.significand a * 2 ^ F.exponent a := by simp [F.ratValue_eq, hs, signFactor]
  have hlo := hE.le
  have hhi := hE.lt
  have hEmax := hE.range
  rw [Fmt.abs_ratValue, ← hv] at hlo hhi
  have hroot : RootAt (sqrtExact F (F.significand a) (F.exponent a)).toRat (F.ratValue a) (2 ^ (E / 2 - F.fracBits - 1)) := by
    rw [hv]
    exact rootAt_sqrtExact F _ (by omega)
  have hu : (0 : ℚ) < 2 ^ (E / 2 - F.fracBits) := zpow_pos two_pos _
  have hmultiple {i : Int} (hi : E / 2 - F.fracBits - 1 ≤ i) := two_zpow_eq_mul hi
  have hlo' : (2 : ℚ) ^ (E / 2) ≤ (sqrtExact F (F.significand a) (F.exponent a)).toRat := by
    rw [hmultiple (by omega), hroot.le_iff, ← hmultiple (by omega), two_zpow_sq]
    exact (two_zpow_le_iff.mpr (by omega)).trans hlo
  have hhi' : (sqrtExact F (F.significand a) (F.exponent a)).toRat < 2 ^ (E / 2 + 1) := by
    rw [hmultiple (by omega), hroot.lt_iff, ← hmultiple (by omega), two_zpow_sq]
    exact hhi.trans_le (two_zpow_le_iff.mpr (by omega))
  have hle := Nat.floor_le (div_nonneg ((zpow_pos two_pos _).le.trans hlo') hu.le)
  have hlt := Nat.lt_floor_add_one ((sqrtExact F (F.significand a) (F.exponent a)).toRat / 2 ^ (E / 2 - F.fracBits))
  rw [le_div_iff₀ hu] at hle
  rw [div_lt_iff₀ hu] at hlt
  obtain ⟨hsig, -⟩ := significand_bounds hlo' hhi' hle hlt
  have hsmall := Fmt.significand_lt a
  refine ⟨E / 2, _, sqrtExact_den_pos .., ?_, ?_, hlo', hhi', hle, hlt, hroot, ?_⟩
  · cases F <;> simp only [Fmt.emin, Fmt.bias, Fmt.expBits, Fmt.fracBits] at hk ⊢ <;> omega
  · cases F <;> simp only [Fmt.emax, Fmt.bias, Fmt.expBits] at hEmax ⊢ <;> omega
  · rw [hv]
    exact odd_sq_ne (by omega) (by omega) _ _

section
variable {F : Fmt} {x : Exact} {v : ℚ} {e : Int} {g : Nat} (h : RootBetween F x v e g)
include h

/-- The neighbours and their mean compare with `x` as their squares do with `v`. -/
theorem RootBetween.squares :
    let lower : ℚ := g * 2 ^ (e - F.fracBits)
    let upper : ℚ := (g + 1 : Nat) * 2 ^ (e - F.fracBits)
    lower ^ 2 ≤ v ∧ v < upper ^ 2 ∧ (x.toRat = lower ↔ lower ^ 2 = v) ∧
      (x.toRat < (lower + upper) / 2 ↔ v < ((lower + upper) / 2) ^ 2) ∧ x.toRat ≠ (lower + upper) / 2 := by
  intro lower upper
  have hstep : (2 : ℚ) ^ (e - F.fracBits) = 2 * 2 ^ (e - F.fracBits - 1) := by
    rw [zpow_sub_one₀ two_ne_zero]
    ring
  have hlower : lower = (2 * g : Nat) * 2 ^ (e - F.fracBits - 1) := by
    simp only [lower, hstep]
    push_cast
    ring
  have hupper : upper = (2 * g + 2 : Nat) * 2 ^ (e - F.fracBits - 1) := by
    simp only [upper, hstep]
    push_cast
    ring
  have hmid : (lower + upper) / 2 = (2 * g + 1 : Nat) * 2 ^ (e - F.fracBits - 1) := by
    rw [hlower, hupper]
    push_cast
    ring
  have hle := h.le
  have hlt := h.lt
  have hupper' : upper = (g + 1) * 2 ^ (e - F.fracBits) := by simp [upper]
  rw [← hupper', hupper, h.root.lt_iff, ← hupper] at hlt
  change lower ≤ _ at hle
  rw [hlower, h.root.le_iff, ← hlower] at hle
  refine ⟨hle, hlt, ?_, ?_, ?_⟩
  · rw [eq_comm, hlower, h.root.eq_iff]
  · rw [hmid, h.root.lt_iff]
  · rw [hmid, ne_comm, Ne, h.root.eq_iff]
    exact h.noTie

/-- The neighbours as patterns. -/
theorem RootBetween.denotes :
    F.Denotes (F.mk false (F.fieldBelow e) g) false (g * 2 ^ (e - F.fracBits)) ∧
      F.Denotes (F.mk false (F.fieldBelow e) g + 1) false ((g + 1 : Nat) * 2 ^ (e - F.fracBits)) := by
  rw [← F.mk_succ]
  exact denotes_neighbours h.lo h.hi h.le h.lt h.min h.max

/-- Each mode chooses between the neighbours as it chooses for the root. -/
theorem RootBetween.roundF_eq (rm : RoundingMode) {p : F.Pattern} (hp : p = F.mk false (F.fieldBelow e) g) :
    roundF F rm x = (if F.ratValue p ^ 2 = v ∨ rm = .rtz ∨ rm = .rdn ∨
        rm ≠ .rup ∧ v < ((F.ratValue p + F.ratValue (p + 1)) / 2) ^ 2 then p else p + 1,
      if F.ratValue p ^ 2 = v then Flags.none else Flags.nx) := by
  have hu : (0 : ℚ) < 2 ^ (e - F.fracBits) := zpow_pos two_pos _
  obtain ⟨hlower, hupper⟩ := h.denotes
  rw [← hp] at hlower hupper
  have hvlower : F.ratValue p = g * 2 ^ (e - F.fracBits) := by simpa [signFactor] using hlower.value
  have hvupper : F.ratValue (p + 1) = (g + 1 : Nat) * 2 ^ (e - F.fracBits) := by simpa [signFactor] using hupper.value
  obtain ⟨-, -, hexact, hbelow, hne⟩ := h.squares
  rw [hvlower, hvupper]
  obtain ⟨c, hc, hround⟩ := roundF_of_normal h.lo h.hi h.le h.lt rm h.den h.min h.max
  have hmid : ((g : ℚ) * 2 ^ (e - F.fracBits) + (g + 1 : Nat) * 2 ^ (e - F.fracBits)) / 2 =
      (g + 1 / 2) * 2 ^ (e - F.fracBits) := by
    push_cast
    ring
  have hzero : x.toRat / 2 ^ (e - F.fracBits) - g = 0 ↔ x.toRat = g * 2 ^ (e - F.fracBits) := by
    rw [sub_eq_zero, div_eq_iff hu.ne']
  have hhalf : x.toRat / 2 ^ (e - F.fracBits) - g < 1 / 2 ↔ x.toRat < (g + 1 / 2) * 2 ^ (e - F.fracBits) := by
    rw [sub_lt_iff_lt_add', div_lt_iff₀ hu]
  have hnotie : x.toRat / 2 ^ (e - F.fracBits) - g ≠ 1 / 2 := by
    rw [Ne, sub_eq_iff_eq_add', div_eq_iff hu.ne', ← hmid]
    exact hne
  rw [roundsUp_iff_of_ne_half rm g hnotie, hzero, hhalf, ← hmid, hexact, hbelow] at hc
  rw [hround, if_congr hexact rfl rfl]
  congr 1
  rcases hc with ⟨hup, rfl⟩ | ⟨hdown, rfl⟩
  · rw [if_neg hup, F.mk_succ, hp]
  · rw [if_pos (not_not.mp hdown), hp]

end

theorem fsqrt_of_positive {F : Fmt} {a : F.Pattern} (m : FpArithMode) (rm : RoundingMode) (ha : F.finite a = true)
    (hz : F.isZero a = false) (hs : F.sign a = false) :
    fsqrt F m rm a = arithRound F m rm (sqrtExact F (F.significand a) (F.exponent a)) := by
  obtain ⟨hnan, hinf⟩ := Fmt.finite_iff.mp ha
  simp [fsqrt, hnan, hinf, hz, hs]

/-- Settles O42: the special operands case by case; of a positive number, what the model rounds is in the place of the root. -/
theorem squareRoot : Obligations.SquareRoot := by
  unfold Obligations.SquareRoot
  intro F m rm a
  refine ⟨fun h => ?_, fun h => ?_, fun hnan hz hs => ?_, fun h hs => ?_, fun ha hz hs => ?_⟩
  · rw [fsqrt, if_pos h]
    rfl
  · simp [fsqrt, (Fmt.finite_iff.mp (Fmt.finite_of_isZero h)).1, h, Flags.none]
  · simp [fsqrt, hnan, hz, hs]
  · simp [fsqrt, Fmt.isNan_of_isInf h, Fmt.isZero_of_isInf h, h, hs, Flags.none]
  · intro r
    obtain ⟨e, g, h⟩ := rootBetween_sqrtExact ha hz hs
    have hsqrt (rm : RoundingMode) : fsqrt F .ieeeFull rm a = _ :=
      (fsqrt_of_positive .ieeeFull rm ha hz hs).trans (h.roundF_eq rm rfl)
    have hr : r.1 = F.mk false (F.fieldBelow e) g := by simp only [r, hsqrt, true_or, or_true, if_true]
    have hflags : r.2 = if F.ratValue r.1 ^ 2 = F.ratValue a then Flags.none else Flags.nx := by
      rw [hr]
      exact congrArg Prod.snd (hsqrt .rtz)
    obtain ⟨hlower, hupper⟩ := h.denotes
    obtain ⟨hle, hlt, -⟩ := h.squares
    have hvlower : F.ratValue r.1 = g * 2 ^ (e - F.fracBits) := by rw [hr]; simpa [signFactor] using hlower.value
    have hvupper : F.ratValue (r.1 + 1) = (g + 1 : Nat) * 2 ^ (e - F.fracBits) := by
      rw [hr]; simpa [signFactor] using hupper.value
    refine ⟨?_, ?_, ?_, ?_, ?_, ?_, ?_⟩
    · rw [hr]
      exact hlower.finite
    · rw [hr]
      exact hlower.sign
    · rwa [hvlower]
    · rwa [hvupper]
    · exact hflags
    · rw [hsqrt rm, hflags, hr]
    · rw [fsqrt_of_positive .hostRne rm ha hz hs, fsqrt_of_positive .ieeeFull .rne ha hz hs]
      rfl

end Sys2Proof.Machine
end
